-- ==== Sys2Proof/Word.lean ====
section
/-! DEFINITION. The plain data words of the Sarkul 3140: link bytes and time base values. -/

namespace Sys2Proof

/-- One byte as it travels on the control link (R2) or on the accelerometer bus (R146). -/
abbrev Byte := BitVec 8

/-- A value of the 32-bit millisecond time base (R23). -/
abbrev Moment := BitVec 32

end Sys2Proof
end

