-- ==== Sys2Proof/Syntax.lean ====
section
/-! DEFINITION. The commands of the Sarkul 3140: one constructor per row of the table of operations and events. -/

namespace Sys2Proof

/-- The three power sources (chapter 3). -/
inductive Source where
  | dc | a | b
deriving DecidableEq, Repr

/-- The two battery bays. -/
inductive Bay where
  | a | b
deriving DecidableEq, Repr

/-- The four fault inputs: one per source and one shared (R60). -/
inductive FaultLine where
  | own (src : Source)
  | shared
deriving DecidableEq, Repr

/-- The commands and events the part takes, in the table's order.
A request carries its TAG and its payload bytes as they travel; an event carries what the pins or the analog world bring. -/
inductive Instr where
  /-- POWER_UP. R19: power arrives after none at all; the operand says whether VAON is already above 6.0 V. -/
  | powerUp (vaonAbove6V : Bool)
  /-- VAON_RISE_ABOVE_6V. R18: VAON rises above 6.0 V. -/
  | vaonRiseAbove6V
  /-- VAON_FALL_TO_6V. R18: VAON falls to 6.0 V or below. -/
  | vaonFallTo6V
  /-- VAON_QUALIFY_EXPIRY. R18: VAON has stayed above 6.0 V for 20 ms. -/
  | vaonQualifyExpiry
  /-- STARTUP_CHECKS_END. R20, R21: the 8 ms checks end; the operands are the two checks' outcomes, which the part's own hardware gives. -/
  | startupChecksEnd (logicPass memoryPass : Bool)
  /-- ENTER_RETAIN. R17: VAON falls below 5.5 V. -/
  | enterRetain
  /-- TIME_BASE_TICK. R23: one millisecond passes. -/
  | timeBaseTick
  /-- LRX_BYTE. R4: a byte arrives on LRX; `stopBit` is false when its stop bit is missing. -/
  | lrxByte (byte : Byte) (stopBit : Bool)
  /-- GAP_TIMEOUT. R4: the 2 ms allowed between two bytes run out. -/
  | gapTimeout
  /-- LTX_FRAME_SENT. R10: LTX finishes sending its frame. -/
  | ltxFrameSent
  /-- IDENTIFY. R26: a IDENTIFY request with this TAG and payload is served. -/
  | identify (tag : Byte) (payload : List Byte)
  /-- RESTART. R24: a RESTART request with this TAG and payload is served. -/
  | restart (tag : Byte) (payload : List Byte)
  /-- QUIET. R15: a QUIET request with this TAG and payload is served. -/
  | quiet (tag : Byte) (payload : List Byte)
  /-- TALK. R15: a TALK request with this TAG and payload is served. -/
  | talk (tag : Byte) (payload : List Byte)
  /-- SET_SLOT. R39: a SET_SLOT request with this TAG and payload is served. -/
  | setSlot (tag : Byte) (payload : List Byte)
  /-- GET_SLOT. R40: a GET_SLOT request with this TAG and payload is served. -/
  | getSlot (tag : Byte) (payload : List Byte)
  /-- SET_SCAN. R41: a SET_SCAN request with this TAG and payload is served. -/
  | setScan (tag : Byte) (payload : List Byte)
  /-- READ_RESULTS. R42: a READ_RESULTS request with this TAG and payload is served. -/
  | readResults (tag : Byte) (payload : List Byte)
  /-- SPOT_READ. R43: a SPOT_READ request with this TAG and payload is served. -/
  | spotRead (tag : Byte) (payload : List Byte)
  /-- SPOT_CONVERSION_END. R43: the spot conversion ends with this code. -/
  | spotConversionEnd (code : BitVec 12)
  /-- SET_TEMP_CAL. R47: a SET_TEMP_CAL request with this TAG and payload is served. -/
  | setTempCal (tag : Byte) (payload : List Byte)
  /-- SCAN_PERIOD_EXPIRY. R34: the scan period timer expires. -/
  | scanPeriodExpiry
  /-- CONVERSION_END. R28: a slot conversion ends with this code. -/
  | conversionEnd (code : BitVec 12)
  /-- PRES_PIN_CHANGE. R54: PRES_DC, PRES_A or PRES_B takes a level. -/
  | presPinChange (src : Source) (asserted : Bool)
  /-- PRESENCE_HOLD_EXPIRY. R55: a pending presence change reaches its hold time. -/
  | presenceHoldExpiry (src : Source)
  /-- QUALIFY_EXPIRY. R57: the qualify timer reaches the qualify time. -/
  | qualifyExpiry (src : Source)
  /-- STANDBY_VIOLATION_EXPIRY. R58: the violation timer of a STANDBY source expires. -/
  | standbyViolationExpiry (src : Source)
  /-- WINDOW_FAULT_EXPIRY. R59: the violation timer of an ACTIVE/ON source expires. -/
  | windowFaultExpiry (src : Source)
  /-- FAULT_PIN_ASSERT. R60: a fault line asserts. -/
  | faultPinAssert (line : FaultLine)
  /-- GOOD_CONFIRM. R64: GOOD_x asserts. -/
  | goodConfirm (src : Source)
  /-- SWITCH_WATCH_EXPIRY. R64: the 5 ms GOOD watch runs out. -/
  | switchWatchExpiry (src : Source)
  /-- LATCH_PIN_CHANGE. R65: LATCH_A or LATCH_B takes a level. -/
  | latchPinChange (bay : Bay) (opened : Bool)
  /-- LATCH_DEBOUNCE_EXPIRY. R66: a pending latch change has held for 2 ms. -/
  | latchDebounceExpiry (bay : Bay)
  /-- OVERLAP_EXPIRY. R85: the overlap timer expires. -/
  | overlapExpiry
  /-- LKS_PIN_CHANGE. R100: LKS_A or LKS_B takes a level. -/
  | lksPinChange (bay : Bay) (asserted : Bool)
  /-- SENSE_DEBOUNCE_EXPIRY. R102: a pending sense change has held for 2 ms. -/
  | senseDebounceExpiry (bay : Bay)
  /-- LOCK_WINDOW_EXPIRY. R102: the 50 ms sense window runs out. -/
  | lockWindowExpiry (bay : Bay)
  /-- SET_SOURCE. R69: a SET_SOURCE request with this TAG and payload is served. -/
  | setSource (tag : Byte) (payload : List Byte)
  /-- GET_SOURCE. R71: a GET_SOURCE request with this TAG and payload is served. -/
  | getSource (tag : Byte) (payload : List Byte)
  /-- CLEAR_FAULT. R63: a CLEAR_FAULT request with this TAG and payload is served. -/
  | clearFault (tag : Byte) (payload : List Byte)
  /-- SET_POLICY. R75: a SET_POLICY request with this TAG and payload is served. -/
  | setPolicy (tag : Byte) (payload : List Byte)
  /-- GET_POWER. R94: a GET_POWER request with this TAG and payload is served. -/
  | getPower (tag : Byte) (payload : List Byte)
  /-- SET_HOST_LOCK. R98: a SET_HOST_LOCK request with this TAG and payload is served. -/
  | setHostLock (tag : Byte) (payload : List Byte)
  /-- GET_LOCKS. R106: a GET_LOCKS request with this TAG and payload is served. -/
  | getLocks (tag : Byte) (payload : List Byte)
  /-- RETRY_LOCK. R105: a RETRY_LOCK request with this TAG and payload is served. -/
  | retryLock (tag : Byte) (payload : List Byte)
  /-- SET_AMBIENT. R122: a SET_AMBIENT request with this TAG and payload is served. -/
  | setAmbient (tag : Byte) (payload : List Byte)
  /-- LID_PIN_CHANGE. R120: LID takes a level (asserted: closed). -/
  | lidPinChange (asserted : Bool)
  /-- LID_DEBOUNCE_EXPIRY. R121: a pending lid change has held for 30 ms. -/
  | lidDebounceExpiry
  /-- RAMP_TICK. R137: the 10 ms ramp tick expires. -/
  | rampTick
  /-- SET_CURVE. R141: a SET_CURVE request with this TAG and payload is served. -/
  | setCurve (tag : Byte) (payload : List Byte)
  /-- GET_CURVE. R142: a GET_CURVE request with this TAG and payload is served. -/
  | getCurve (tag : Byte) (payload : List Byte)
  /-- SET_BACKLIGHT. R139: a SET_BACKLIGHT request with this TAG and payload is served. -/
  | setBacklight (tag : Byte) (payload : List Byte)
  /-- GET_BACKLIGHT. R144: a GET_BACKLIGHT request with this TAG and payload is served. -/
  | getBacklight (tag : Byte) (payload : List Byte)
  /-- SET_CAPS. R143: a SET_CAPS request with this TAG and payload is served. -/
  | setCaps (tag : Byte) (payload : List Byte)
  /-- SET_MOTION. R148: a SET_MOTION request with this TAG and payload is served. -/
  | setMotion (tag : Byte) (payload : List Byte)
  /-- SET_SETUP_LIST. R149: a SET_SETUP_LIST request with this TAG and payload is served. -/
  | setSetupList (tag : Byte) (payload : List Byte)
  /-- SET_CHECK_LISTS. R156: a SET_CHECK_LISTS request with this TAG and payload is served. -/
  | setCheckLists (tag : Byte) (payload : List Byte)
  /-- SELF_CHECK. R157: a SELF_CHECK request with this TAG and payload is served. -/
  | selfCheck (tag : Byte) (payload : List Byte)
  /-- GET_MOTION. R161: a GET_MOTION request with this TAG and payload is served. -/
  | getMotion (tag : Byte) (payload : List Byte)
  /-- SETUP_ENTRY_END. R151: a WRITE or CHECK transfer of the setup list ends; `readByte` is the byte a CHECK read. -/
  | setupEntryEnd (readByte : Byte)
  /-- SETUP_WAIT_EXPIRY. R151: the time of a WAIT entry runs out. -/
  | setupWaitExpiry
  /-- RETRY_EXPIRY. R152: the 500 ms retry timer expires. -/
  | retryExpiry
  /-- MINT_ASSERT. R153: MINT asserts. -/
  | mintAssert
  /-- STALL_EXPIRY. R153: the stall timer expires. -/
  | stallExpiry
  /-- BURST_END. R154: a burst ends, having read these bytes. -/
  | burstEnd (bytes : List Byte)
  /-- CHECK_LIST_WRITE_END. R158: a write transfer of a self-check list ends. -/
  | checkListWriteEnd
  /-- READ_LOG. R182: a READ_LOG request with this TAG and payload is served. -/
  | readLog (tag : Byte) (payload : List Byte)
  /-- CLEAR_LOG. R184: a CLEAR_LOG request with this TAG and payload is served. -/
  | clearLog (tag : Byte) (payload : List Byte)
  /-- ALL_POWER_LOST. R19: the part loses all power while it lives in RETAIN. -/
  | allPowerLost
  /-- RETAIN_STORE_CORRUPTION. R22: the retained store is corrupted in RETAIN. -/
  | retainStoreCorruption
  /-- FAULT_PIN_RELEASE. R60: a fault line is released. -/
  | faultPinRelease (line : FaultLine)
  /-- GOOD_RELEASE. R64: GOOD_x is released. -/
  | goodRelease (src : Source)
  /-- MINT_RELEASE. R153: MINT is released. -/
  | mintRelease
  /-- UNKNOWN_KIND_REQUEST. R8: a request whose KIND names no request of the catalogue is served. -/
  | unknownKindRequest (kind tag : Byte) (payload : List Byte)
deriving DecidableEq, Repr

end Sys2Proof
end

