-- ==== Sys2Proof/Decode.lean ====
section
/-! DEFINITION. Reading a command from a word. The table of operations gives no row any bits: commands are frames,
pin changes and times, and no word spells one. -/

namespace Sys2Proof

/-- The command that the `nbits` bits of `w` spell by the table: none, as no row of the table has bits (log 32). -/
def decodeTableWord (_nbits _w : Nat) : Option Instr := none

end Sys2Proof
end

