-- ==== Sys2Proof/Machine/Types.lean ====
section
/-! DEFINITION. The enumerations and small records that the blocks of the part are described with. -/

namespace Sys2Proof.Machine

/-- One value for each of the three sources. -/
structure PerSource (α : Type) where
  dc : α
  a : α
  b : α
deriving DecidableEq, Repr

/-- One value for each of the two bays. -/
structure PerBay (α : Type) where
  a : α
  b : α
deriving DecidableEq, Repr

/-- A set of sources (R12). -/
abbrev SourceSet := PerSource Bool

/-! ### The link (chapter 1) -/

/-- The status of a reply (R8). -/
inductive Status where
  | ok | clamped | accepted | busy | badKind | badLength | badValue | badState
deriving DecidableEq, Repr

/-- The two link modes (R15). -/
inductive LinkMode where
  | talk | quiet
deriving DecidableEq, Repr

/-- The twelve notice keys (R13). -/
inductive NoticeKey where
  | transfer | drop | power | sourceDc | sourceA | sourceB | lock | motion | limit | backlight | link | start
deriving DecidableEq, Repr

/-- The three classes of notice keys (R13). -/
inductive NoticeClass where
  | urgent | normal | low
deriving DecidableEq, Repr

/-- The causes a block posts, each with its key (R13). -/
inductive Cause where
  | transferDone | transferFailed | noReserve | releaseHeld
  | dropFalling | dropImpact | dropRecord | dropCalm
  | conditionChanged
  | sourceState (x : Source) | sourceAttach (x : Source) | sourceDetach (x : Source) | sourceFault (x : Source)
  | sourceDrained (x : Source) | latchWhileLocked (x : Source)
  | lockState | lockJammed
  | motionLost | motionStreaming | checkDone
  | limitCrossing (slot : Fin 16) | limitDegraded | limitRecovered
  | ambientValidity | capEngaged | capReleased
  | linkGap | linkLength | linkCrc
  | startCold | startSupply | startRequested | startRetainLost
deriving DecidableEq, Repr

/-- An entry of the notice queue (R13): its key, its causes by bit, and for LIMIT its set of slots. -/
structure Entry where
  key : NoticeKey
  causes : BitVec 16
  slots : BitVec 16
deriving DecidableEq, Repr

/-- The receiver on LRX (R4). `since` is the time base at the end of the last byte taken; `got` holds the bytes
after LEN in the order they came. -/
inductive Receiver where
  | hunt
  | header (since : Moment)
  | body (since : Moment) (len : Byte) (got : List Byte)
deriving DecidableEq, Repr

/-- A request in the request queue (R5, R6). `served` says that it has been checked and applied or refused. -/
structure Request where
  kind : Byte
  tag : Byte
  payload : List Byte
  served : Bool
deriving DecidableEq, Repr

/-- A reply in the reply list (R7). `busy` marks a BUSY reply, whose request holds no queue place. -/
structure Reply where
  kind : Byte
  tag : Byte
  payload : List Byte
  busy : Bool
deriving DecidableEq, Repr

/-- What LTX is sending (R10): the reply at the head of the reply list, or a notice. -/
inductive Sending where
  | reply (r : Reply)
  | notice (payload : List Byte)
deriving DecidableEq, Repr

/-- The option of RESTART (R24). -/
inductive RestartOption where
  | keep | defaults
deriving DecidableEq, Repr

/-- The cause of the last start (R26). -/
inductive StartCause where
  | cold | supply | requested
deriving DecidableEq, Repr

/-- Where the settings came from at the last start (R22). -/
inductive Origin where
  | defaults | retained
deriving DecidableEq, Repr

/-- The supply state (section 1.5) and the start-up checks between RETAIN and RUN (R18, R20).
`unpowered` is the part with no power at all (R19). `wait` is the moment VAON last rose above 6.0 V, while it stays there. -/
inductive Supply where
  | unpowered
  | retain (wait : Option Moment)
  | checks (since : Moment)
  | run
deriving DecidableEq, Repr

/-- A timer that runs for a fixed length from a moment of the time base. -/
structure Timer where
  since : Moment
  length : Nat
deriving DecidableEq, Repr

/-! ### The sensor scanner (chapter 2) -/

/-- The inputs of the converter (R28). -/
inductive Input where
  | ain (n : Fin 16)
  | ref
deriving DecidableEq, Repr

/-- The dividers of the converter (R28). -/
inductive Divider where
  | by1 | by2 | by4 | by8
deriving DecidableEq, Repr

/-- The average counts (R29). -/
inductive AverageCount where
  | two | four | eight
deriving DecidableEq, Repr

/-- The conversion kinds; AVERAGE holds its count (R29). -/
inductive ConvKind where
  | single
  | average (n : AverageCount)
  | settle
deriving DecidableEq, Repr

/-- The limit state of a slot (R29, R37). -/
inductive LimitState where
  | unknown | inside | above | below
deriving DecidableEq, Repr

/-- The reference state of the scanner (R44). -/
inductive RefState where
  | normal | degraded
deriving DecidableEq, Repr

/-- What the converter is doing (R34, R43): nothing; converting a slot of the cycle in progress, with the codes
converted so far, newest first; or the spot conversion, with the slot after which the cycle goes on, if one is in progress. -/
inductive Converter where
  | idle
  | slot (n : Fin 16) (codes : List Nat)
  | spot (input : Input) (divider : Divider) (resume : Option (Fin 16))
deriving DecidableEq, Repr

/-- A spot read waiting for the slot in progress to end (R43). -/
structure SpotRequest where
  input : Input
  divider : Divider
deriving DecidableEq, Repr

/-- The running values of a slot (R29). -/
structure SlotRun where
  code : Nat
  mv : Nat
  valid : Bool
  unsettled : Bool
  degraded : Bool
  count : Nat
  limit : LimitState
  crossed : Bool
deriving DecidableEq, Repr

/-! ### Power sources, transfers and the power condition (chapters 3 and 4) -/

/-- How the presence indication is formed (R53). -/
inductive PresenceSelect where
  | pin | voltage | both | forced
deriving DecidableEq, Repr

/-- What a source watches for faults (R60). -/
inductive FaultSelect where
  | unwatched | pin | shared | current | forced
deriving DecidableEq, Repr

/-- The fault kinds (R50). -/
inductive FaultKind where
  | overcurrentPin | overcurrentScan | shared | windowLow | windowHigh | switchFault | forced
deriving DecidableEq, Repr

/-- The seven source states with their substates (section 3.2). The fault kind is present only in FAULT (R50). -/
inductive SourceState where
  | disabled | absent | qualify | standby | activeClosing | activeOn | releasingHeld | releasingOpen
  | fault (kind : FaultKind)
deriving DecidableEq, Repr

/-- The qualify timer (R50, R57). It keeps the length it was started with. -/
inductive QualifyTimer where
  | stopped
  | running (since : Moment) (length : Nat)
  | paused (elapsed : Nat) (length : Nat)
deriving DecidableEq, Repr

/-- The side of an out-of-window reading (R50). -/
inductive Side where
  | low | high
deriving DecidableEq, Repr

/-- The violation timer (R50, R58, R59). -/
inductive ViolationTimer where
  | stopped
  | running (since : Moment) (side : Side)
deriving DecidableEq, Repr

/-- The power path policies (R75). -/
inductive Policy where
  | drainLower | drainAFirst | drainBFirst | share
deriving DecidableEq, Repr

/-- The power condition (R93). -/
inductive Condition where
  | full | single | low | transfer | noSupply
deriving DecidableEq, Repr

/-- The three kinds of transfer (R77). -/
inductive TransferKind where
  | planned | release | breakLoad
deriving DecidableEq, Repr

/-- The step of a transfer in flight (R81), with the overlap timer where it runs. -/
inductive TransferStep where
  | closingIncoming
  | overlap (timer : Timer)
deriving DecidableEq, Repr

/-- The transfer record (R81). -/
structure Transfer where
  kind : TransferKind
  outgoing : SourceSet
  incoming : Source
  step : TransferStep
  startMs : Moment
  tried : SourceSet
deriving DecidableEq, Repr

/-! ### Bay locks (chapter 5) -/

/-- The reason set of a bay (R95). -/
structure Reasons where
  sole : Bool
  transfer : Bool
  drop : Bool
  host : Bool
deriving DecidableEq, Repr

/-- The jam directions (section 5.3). -/
inductive Jam where
  | engage | release | slipped
deriving DecidableEq, Repr

/-- The lock states (section 5.3). The sense window runs exactly in ENGAGING and UNLOCKING, from `since`. -/
inductive LockState where
  | free
  | engaging (since : Moment)
  | locked
  | unlocking (since : Moment)
  | jammed (dir : Jam)
deriving DecidableEq, Repr

/-! ### Ambient light and backlight (chapters 6 and 7) -/

/-- The ranges of the ambient sensor (R111). -/
inductive Range where
  | low | high
deriving DecidableEq, Repr

/-- The validity of the ambient front end (R114). -/
inductive Validity where
  | pending | valid | invalid
deriving DecidableEq, Repr

/-- The fallback of the ambient front end (R115). -/
inductive Fallback where
  | hold | fixed
deriving DecidableEq, Repr

/-- A filter that is not empty (R110). -/
structure Filter where
  acc : Nat
  avg : Nat
deriving DecidableEq, Repr

/-- The backlight modes (R124). -/
inductive BacklightMode where
  | auto | manual | off
deriving DecidableEq, Repr

/-- A point of the curve (R125). -/
structure CurvePoint where
  lux : Nat
  level : Nat
deriving DecidableEq, Repr

/-! ### Motion port, drop detector and shock log (chapters 8 to 10) -/

/-- The sample rates (R147). -/
inductive Rate where
  | r400 | r800 | r1600
deriving DecidableEq, Repr

/-- An entry of the setup list (R149). -/
inductive SetupEntry where
  | write (address value : Byte)
  | check (address expected mask : Byte)
  | wait (ms : Nat)
deriving DecidableEq, Repr

/-- A write of a self-check list (R156). -/
structure ListWrite where
  address : Byte
  value : Byte
deriving DecidableEq, Repr

/-- The five states of the motion port (R150). -/
inductive PortState where
  | off | setup | streaming | lost | checking
deriving DecidableEq, Repr

/-- The burst status (R150). -/
inductive BurstStatus where
  | noBurst | complete | bad
deriving DecidableEq, Repr

/-- Which list a list write belongs to: a list of the check in progress, or the off-list an abort writes (R158, R160). -/
inductive WriteList where
  | checkOn | checkOff | abortOff
deriving DecidableEq, Repr

/-- The accelerometer bus (R146): idle, the transfer of the present setup entry with the bytes it sends on MDO, a burst
with the W, the address byte on MDO and the time it was started with, or a list write with the writes not yet ended, the
first of them in progress. -/
inductive Bus where
  | idle
  | setupTransfer (sent : List Byte)
  | burst (w : Nat) (addressByte : Byte) (time : Moment)
  | listWrite (list : WriteList) (left : List ListWrite)
deriving DecidableEq, Repr

/-- What a burst that waits for the bus answers (R153, R155): an assertion of MINT, with its moment, or MINT standing
asserted when the burst fell due, which makes it take the time of its own start. -/
inductive BurstCall where
  | assertion (time : Moment)
  | level
deriving DecidableEq, Repr

/-- Three axis values. -/
structure Vec3 where
  x : Int
  y : Int
  z : Int
deriving DecidableEq, Repr

/-- The phases of a self-check (R158). -/
inductive CheckPhase where
  | baseline | onSettle | on | offSettle | ret
deriving DecidableEq, Repr

/-- The progress of a self-check (R150, R158): the phase, its samples so far, their sums, and what is computed. -/
structure CheckRun where
  phase : CheckPhase
  count : Nat
  sum : Vec3
  baseline : Vec3
  delta : Vec3
deriving DecidableEq, Repr

/-- The outcomes of a self-check (R159). -/
inductive CheckOutcome where
  | noCheck | pass | fail | aborted
deriving DecidableEq, Repr

/-- The self-check result (R159). -/
structure CheckResult where
  outcome : CheckOutcome
  stage : Nat
  baseline : Vec3
  delta : Vec3
deriving DecidableEq, Repr

/-- A run of the setup list (R151): the entry in progress, counted from 0, whether the retry timer began the run,
and the moment a WAIT entry began. -/
structure SetupRun where
  entry : Nat
  byRetry : Bool
  waitSince : Option Moment
deriving DecidableEq, Repr

/-- A motion sample (R155): its values in mg and its time. -/
structure Sample where
  v : Vec3
  time : Moment
deriving DecidableEq, Repr

/-- The drop states (R164). -/
inductive DropState where
  | suspended | calm | falling | impact | recover
deriving DecidableEq, Repr

/-- The classes of a sample (R163). -/
inductive SampleClass where
  | low | ordinary | high
deriving DecidableEq, Repr

/-- The axes, as the peak axis names them (R169). -/
inductive Axis where
  | x | y | z
deriving DecidableEq, Repr

/-- The kinds of shock record (R27). -/
inductive RecordKind where
  | fallImpact | fallNoImpact | impactOnly
deriving DecidableEq, Repr

/-- The peak of an open record and its impact count (R167, R169). -/
structure Peak where
  m2 : Nat
  axis : Axis
  k : Nat
deriving DecidableEq, Repr

/-- An open record (R167). `kind` is absent while it is pending. -/
structure OpenRecord where
  kind : Option RecordKind
  time : Moment
  bounce : Bool
  guardUsed : Bool
  lockLate : Bool
  long : Bool
  condition : Condition
  feeding : SourceSet
  fallLength : Nat
  peak : Option Peak
  follows : Option Nat
deriving DecidableEq, Repr

/-- The fall group of a shock record (R27). -/
structure FallGroup where
  fallMs : Nat
  heightMm : Nat
deriving DecidableEq, Repr

/-- The impact group of a shock record (R27), at full value (R172). -/
structure ImpactGroup where
  peakMg : Nat
  axis : Axis
  impactMs : Nat
deriving DecidableEq, Repr

/-- A shock record as the log holds it (R179). -/
structure ShockRecord where
  seq : Nat
  time : Moment
  kind : RecordKind
  truncated : Bool
  bounce : Bool
  guardUsed : Bool
  lockLate : Bool
  long : Bool
  condition : Condition
  feeding : SourceSet
  fall : Option FallGroup
  impact : Option ImpactGroup
  follows : Option Nat
deriving DecidableEq, Repr

end Sys2Proof.Machine
end

