-- ==== Sys2Proof/Machine/Settings.lean ====
section
/-! DEFINITION. The settings the retained store keeps (R22), block by block, with their cold values. -/

namespace Sys2Proof.Machine

/-- The settings of a scanner slot (R29). -/
structure SlotSettings where
  enabled : Bool
  input : Input
  divider : Divider
  kind : ConvKind
  tolerance : Nat
  maximum : Nat
  low : Option Nat
  high : Option Nat
  hysteresis : Nat
deriving DecidableEq, Repr

/-- The scanner's settings (R29, R41, R47). -/
structure ScanSettings where
  slots : Vector SlotSettings 16
  period : Nat
  hostScan : Bool
  zeroMv : Nat
  gain : Nat
deriving DecidableEq, Repr

/-- The settings every source has (R49). -/
structure SourceSettings where
  enabled : Bool
  presence : PresenceSelect
  threshold : Nat
  faultSelect : FaultSelect
  windowLow : Nat
  windowHigh : Nat
  qualifyTime : Nat
  violationTime : Nat
deriving DecidableEq, Repr

/-- The three settings of a bay that DC lacks (R49). -/
structure BaySettings where
  overcurrent : Nat
  lowThreshold : Nat
  rideThrough : Nat
deriving DecidableEq, Repr

/-- The power path settings (R49, R75). -/
structure PowerSettings where
  sources : PerSource SourceSettings
  bays : PerBay BaySettings
  policy : Policy
  overlap : Nat
  lockSole : Bool
deriving DecidableEq, Repr

/-- The settings of the ambient front end (R110). -/
structure AmbientSettings where
  k : Nat
  fallback : Fallback
  fixedLux : Nat
deriving DecidableEq, Repr

/-- The caps table (R125). -/
structure Caps where
  full : Nat
  single : Nat
  low : Nat
  transfer : Nat
  noSupply : Nat
deriving DecidableEq, Repr

/-- The scalar settings of the backlight controller (R124). -/
structure BacklightScalars where
  mode : BacklightMode
  manual : Nat
  bias : Int
  hysteresis : Nat
  slew : Nat
  dmin : Nat
  dmax : Nat
  ts : Int
  te : Int
  cmin : Nat
  unknownCap : Nat
deriving DecidableEq, Repr

/-- The settings of the backlight controller (R124, R125). -/
structure BacklightSettings where
  scalars : BacklightScalars
  curve : List CurvePoint
  caps : Caps
deriving DecidableEq, Repr

/-- The twelve motion settings (R147). -/
structure MotionScalars where
  enable : Bool
  rate : Rate
  w : Nat
  scale : Nat
  address : Byte
  tff : Nat
  timp : Nat
  fallConfirm : Nat
  returnTime : Nat
  impactQuiet : Nat
  guardTime : Nat
  maxFall : Nat
deriving DecidableEq, Repr

/-- The self-check settings (R156). -/
structure CheckSettings where
  onList : List ListWrite
  offList : List ListWrite
  deltaMin : Nat
  deltaMax : Nat
  tolerance : Nat
deriving DecidableEq, Repr

/-- The settings of the motion port and the drop detector (R147, R149, R156). -/
structure MotionSettings where
  scalars : MotionScalars
  setupList : List SetupEntry
  check : CheckSettings
deriving DecidableEq, Repr

/-- Every setting of the part. -/
structure Settings where
  scan : ScanSettings
  power : PowerSettings
  ambient : AmbientSettings
  backlight : BacklightSettings
  motion : MotionSettings
deriving DecidableEq, Repr

/-- The fixed values of a system slot (R32), with the cold limits of R29. -/
def SlotSettings.system (input : Input) (divider : Divider) (kind : ConvKind) : SlotSettings :=
  { enabled := true, input := input, divider := divider, kind := kind, tolerance := 4, maximum := 8,
    low := none, high := none, hysteresis := 0 }

/-- The cold values of host slot `n` (R29). -/
def SlotSettings.host (n : Fin 16) : SlotSettings :=
  { enabled := false, input := .ain n, divider := .by1, kind := .single, tolerance := 4, maximum := 8,
    low := none, high := none, hysteresis := 0 }

/-- The cold values of the scanner (R29, R32, R41, R47). -/
def ScanSettings.cold : ScanSettings :=
  { slots := #v[
      .system (.ain 0) .by8 .single, .system (.ain 1) .by8 .single, .system (.ain 2) .by8 .single,
      .system (.ain 3) .by1 (.average .four), .system (.ain 4) .by1 (.average .four),
      .system (.ain 5) .by1 .single, .system (.ain 6) .by1 (.average .two), .system .ref .by1 .single,
      .host 8, .host 9, .host 10, .host 11, .host 12, .host 13, .host 14, .host 15],
    period := 10, hostScan := true, zeroMv := 500, gain := 1000 }

/-- The cold values of DC (R49). -/
def SourceSettings.coldDc : SourceSettings :=
  { enabled := true, presence := .pin, threshold := 9000, faultSelect := .pin, windowLow := 17500,
    windowHigh := 21000, qualifyTime := 300, violationTime := 30 }

/-- The cold values of each bay (R49). -/
def SourceSettings.coldBay : SourceSettings :=
  { enabled := true, presence := .pin, threshold := 6000, faultSelect := .pin, windowLow := 11000,
    windowHigh := 17000, qualifyTime := 500, violationTime := 30 }

/-- The cold values of the three bay settings (R49). -/
def BaySettings.cold : BaySettings :=
  { overcurrent := 6000, lowThreshold := 12400, rideThrough := 20 }

/-- The cold values of the power path (R49, R75). -/
def PowerSettings.cold : PowerSettings :=
  { sources := ⟨.coldDc, .coldBay, .coldBay⟩, bays := ⟨.cold, .cold⟩, policy := .drainLower,
    overlap := 2, lockSole := true }

/-- The cold values of the ambient front end (R110). -/
def AmbientSettings.cold : AmbientSettings :=
  { k := 3, fallback := .hold, fixedLux := 10000 }

/-- The cold caps table (R125). -/
def Caps.cold : Caps :=
  { full := 1000, single := 800, low := 400, transfer := 300, noSupply := 0 }

/-- The cold values of the backlight scalars (R124). -/
def BacklightScalars.cold : BacklightScalars :=
  { mode := .auto, manual := 500, bias := 0, hysteresis := 20, slew := 4, dmin := 120, dmax := 4095,
    ts := 600, te := 750, cmin := 350, unknownCap := 600 }

/-- The cold values of the backlight controller (R124, R125). -/
def BacklightSettings.cold : BacklightSettings :=
  { scalars := .cold,
    curve := [⟨0, 60⟩, ⟨50, 150⟩, ⟨500, 350⟩, ⟨5000, 650⟩, ⟨30000, 900⟩, ⟨80000, 1000⟩],
    caps := .cold }

/-- The cold values of the twelve motion settings (R147). -/
def MotionScalars.cold : MotionScalars :=
  { enable := true, rate := .r800, w := 8, scale := 125, address := 0x30, tff := 350, timp := 3500,
    fallConfirm := 60, returnTime := 16, impactQuiet := 50, guardTime := 500, maxFall := 1500 }

/-- The cold values of the self-check settings (R156). -/
def CheckSettings.cold : CheckSettings :=
  { onList := [], offList := [], deltaMin := 200, deltaMax := 2000, tolerance := 100 }

/-- The cold values of the motion port and the drop detector (R147, R149, R156). -/
def MotionSettings.cold : MotionSettings :=
  { scalars := .cold, setupList := [], check := .cold }

/-- Every setting at its cold value. -/
def Settings.cold : Settings :=
  { scan := .cold, power := .cold, ambient := .cold, backlight := .cold, motion := .cold }

end Sys2Proof.Machine
end

