-- ==== Sys2Proof/Config.lean ====
section
/-! DEFINITION. What the manual leaves open: constants with no body, so that no proof can see their values. -/

namespace Sys2Proof

/-- DESIGN CHOICE (log 10): the `n`-th byte the part sends in a place the manual calls "sent and ignored" (R11, R94, R144).
The manual states no content for those bytes. -/
opaque Config.ignoredByte : Nat → Byte

/-- DESIGN CHOICE (log 11): the 2-byte field of GET_MOTION for a self-check baseline or delta that does not fit
16 signed bits (R161 gives the field 2 bytes, R155 lets a value reach 524,288 in magnitude, and no rule says what is sent). -/
opaque Config.wideMotionWord : Int → BitVec 16

/-- DESIGN CHOICE (log 2): the 32-bit check word computed over the settings, the shock log and next_seq (R22). The manual
states no algorithm for it. -/
opaque Config.checkWord : Machine.Settings → List Machine.ShockRecord → Nat → BitVec 32

/-- DESIGN CHOICE (log 2): how far the `n`-th corruption leaves the check word from the one its contents call for, less
one (R22 says only that the two then differ). -/
opaque Config.corruption : Nat → Fin 4294967295

end Sys2Proof
end

