-- ==== Sys2Proof/Machine/Store.lean ====
section
/-! DEFINITION. The retained store (R22): its contents, its check word, and its cold values. -/

namespace Sys2Proof.Machine

/-- The retained store: the settings of every block, the shock log, next_seq, and the check word over all of these (R22). -/
structure Store where
  settings : Settings
  log : List ShockRecord
  nextSeq : Nat
  checkWord : BitVec 32
deriving DecidableEq, Repr

/-- The check word computed over the contents (R22). -/
def Store.wordOf (st : Store) : BitVec 32 := Config.checkWord st.settings st.log st.nextSeq

/-- The store with the check word of its contents, as every change of the store leaves it (R22). -/
def Store.withWord (st : Store) : Store := { st with checkWord := st.wordOf }

/-- Whether the check word matches the contents (R20, R22). -/
def Store.intact (st : Store) : Bool := st.checkWord == st.wordOf

/-- The store after the `n`-th corruption: its check word differs from the one of its contents by a free amount that is
not 0 (R22). The contents stay as they were, since a start that finds the mismatch takes the cold values
(DESIGN CHOICE, log 2). -/
def Store.corrupted (st : Store) (n : Nat) : Store :=
  { st with checkWord := st.wordOf + BitVec.ofNat 32 ((Config.corruption n).val + 1) }

/-- The cold values of the retained store (R19). -/
def Store.cold : Store := Store.withWord { settings := .cold, log := [], nextSeq := 1, checkWord := 0 }

end Sys2Proof.Machine
end

