-- ==== Sys2Proof/Machine/State.lean ====
section
/-! DEFINITION. The state of the part: the retained store, the pins and the running values of every block, with the
values each block takes at a cold or supply start, and `State.reset`, the part right after a cold start. -/

namespace Sys2Proof.Machine

/-- The input pins that the blocks read by level (section "Pins"). A latch pin is true while the latch is opened;
every other pin is true while asserted. -/
structure Pins where
  pres : PerSource Bool
  latch : PerBay Bool
  flt : PerSource Bool
  fltShared : Bool
  good : PerSource Bool
  lks : PerBay Bool
  lid : Bool
  mint : Bool
deriving DecidableEq, Repr

/-- Every input pin released. The level of an input is the board's, and the manual gives none (DESIGN CHOICE, log 4). -/
def Pins.released : Pins :=
  { pres := ⟨false, false, false⟩, latch := ⟨false, false⟩, flt := ⟨false, false, false⟩, fltShared := false,
    good := ⟨false, false, false⟩, lks := ⟨false, false⟩, lid := false, mint := false }

/-- What a start sets for itself and IDENTIFY reports (R21, R22, R26). A check result is true for PASS. -/
structure StartRecord where
  cause : StartCause
  retainLost : Bool
  origin : Origin
  logicPass : Bool
  memoryPass : Bool
deriving DecidableEq, Repr

/-- The control link (R4 to R16). -/
structure Link where
  rx : Receiver
  queue : List Request
  replies : List Reply
  ltx : Option Sending
  mode : LinkMode
  notices : List Entry
  wakeN : Bool
  restart : Option RestartOption
deriving DecidableEq, Repr

/-- The link after a start or an entry to RETAIN has emptied it (R17, R25). -/
def Link.start : Link :=
  { rx := .hunt, queue := [], replies := [], ltx := none, mode := .talk, notices := [], wakeN := false, restart := none }

/-- The running values of the sensor scanner (R29, R34, R43, R44). -/
structure Scanner where
  slots : Vector SlotRun 16
  ref : RefState
  outsideCount : Nat
  insideCount : Nat
  period : Option Timer
  cycleDue : Bool
  conv : Converter
  spot : Option SpotRequest
deriving DecidableEq, Repr

/-- A slot with no result (R48). -/
def SlotRun.start : SlotRun :=
  { code := 0, mv := 0, valid := false, unsettled := false, degraded := false, count := 0, limit := .unknown,
    crossed := false }

/-- The scanner's start values, before the first cycle begins (R48). -/
def Scanner.start : Scanner :=
  { slots := Vector.replicate 16 .start, ref := .normal, outsideCount := 0, insideCount := 0, period := none,
    cycleDue := false, conv := .idle, spot := none }

/-- The running values of a source (R50). `lastCounted` is the last voltage reading that counted (R53), `switch` the
level driven on SW_x, `goodWatch` the moment a closing began its watch (R64). -/
structure SourceRun where
  state : SourceState
  presence : Bool
  pendingPresence : Option Moment
  lastCounted : Option Nat
  switch : Bool
  qualify : QualifyTimer
  violation : ViolationTimer
  currentCount : Nat
  drained : Bool
  attachSeen : Bool
  detachSeen : Bool
  lastVoltage : Nat
  lastCurrent : Nat
  latchOpen : Bool
  pendingLatch : Option Moment
  goodWatch : Option Moment
deriving DecidableEq, Repr

/-- The start values of an enabled source (R50). -/
def SourceRun.start : SourceRun :=
  { state := .absent, presence := false, pendingPresence := none, lastCounted := none, switch := false,
    qualify := .stopped, violation := .stopped, currentCount := 0, drained := false, attachSeen := false,
    detachSeen := false, lastVoltage := 0, lastCurrent := 0, latchOpen := false, pendingLatch := none,
    goodWatch := none }

/-- The running values of the power path controller (R50, R72). -/
structure Power where
  src : PerSource SourceRun
  transfer : Option Transfer
  joining : Option Bay
  deferred : Bool
  condition : Condition
deriving DecidableEq, Repr

/-- The power path with every source ABSENT (R17, R50, R72). -/
def Power.start : Power :=
  { src := ⟨.start, .start, .start⟩, transfer := none, joining := none, deferred := false, condition := .noSupply }

/-- The running values of a bay lock (chapter 5). HOST is in the reason set exactly while the host lock request is on
(R98), so `reasons.host` holds both. `drive` is the level driven on LOCK_x. -/
structure BayLock where
  reasons : Reasons
  drive : Bool
  state : LockState
  sense : Bool
  pendingSense : Option Moment
deriving DecidableEq, Repr

/-- The start values of a bay lock, with its sense report free (R109). -/
def BayLock.start : BayLock :=
  { reasons := ⟨false, false, false, false⟩, drive := false, state := .free, sense := false, pendingSense := none }

/-- The running values of the ambient front end (R110). ALS_RANGE is asserted exactly while `range` is HIGH (R111). -/
structure Ambient where
  range : Range
  discard : Bool
  validity : Validity
  filter : Option Filter
  seedPending : Bool
  lidClosed : Bool
  pendingLid : Option Moment
deriving DecidableEq, Repr

/-- The start values of the ambient front end, with the lid open (R123). -/
def Ambient.start : Ambient :=
  { range := .low, discard := false, validity := .pending, filter := none, seedPending := true, lidClosed := false,
    pendingLid := none }

/-- The running values of the backlight controller (R126). `temperature` is absent while unknown, `rampSince` the
moment the present 10 ms of the ramp tick began. `duty` and `blEn` are what BL_PWM and BL_EN show. -/
structure Backlight where
  ambient : Option Nat
  lidClosed : Bool
  temperature : Option Int
  condition : Condition
  powerCap : Nat
  thermalCap : Nat
  effectiveCap : Nat
  target : Option Nat
  binding : Bool
  level : Nat
  duty : Nat
  blEn : Bool
  rampSince : Moment
deriving DecidableEq, Repr

/-- The backlight controller stopped (R17) and as a cold start with cold settings leaves it (R145). -/
def Backlight.start : Backlight :=
  { ambient := none, lidClosed := false, temperature := none, condition := .noSupply, powerCap := 0, thermalCap := 600,
    effectiveCap := 0, target := none, binding := false, level := 0, duty := 0, blEn := false, rampSince := 0 }

/-- The zero vector. -/
def Vec3.zero : Vec3 := ⟨0, 0, 0⟩

/-- A self-check at the start of its first phase (R157). -/
def CheckRun.start : CheckRun :=
  { phase := .baseline, count := 0, sum := .zero, baseline := .zero, delta := .zero }

/-- The self-check result after a start (R162). -/
def CheckResult.start : CheckResult :=
  { outcome := .noCheck, stage := 0, baseline := .zero, delta := .zero }

/-- A run of the setup list at its first entry (R151). -/
def SetupRun.start : SetupRun :=
  { entry := 0, byRetry := false, waitSince := none }

/-- The running values of the motion port (R150). `burstPending` holds the burst pending flag with the moment of the
assertion that set it, `burstWaiting` what a burst that waits for the bus answers. -/
structure Motion where
  port : PortState
  burstStatus : BurstStatus
  badCount : Nat
  failEntry : Nat
  nextIndex : BitVec 32
  burstPending : Option Moment
  burstWaiting : Option BurstCall
  stall : Option Timer
  retry : Option Moment
  setup : SetupRun
  bus : Bus
  check : CheckRun
  result : CheckResult
deriving DecidableEq, Repr

/-- The motion port's start values, before it enters SETUP (R162). -/
def Motion.start : Motion :=
  { port := .off, burstStatus := .noBurst, badCount := 0, failEntry := 0, nextIndex := 0, burstPending := none,
    burstWaiting := none, stall := none, retry := none, setup := .start, bus := .idle, check := .start, result := .start }

/-- The running values of the drop detector (R164). `contactGuard` is the guard handed to the power path controller,
`park` the level of PARK. -/
structure Drop where
  state : DropState
  lowRun : Nat
  runStart : Moment
  fallCount : Nat
  returnCount : Nat
  quietCount : Nat
  guardCount : Nat
  contactGuard : Bool
  park : Bool
  record : Option OpenRecord
deriving DecidableEq, Repr

/-- The drop detector's start values (R178). -/
def Drop.start : Drop :=
  { state := .suspended, lowRun := 0, runStart := 0, fallCount := 0, returnCount := 0, quietCount := 0,
    guardCount := 0, contactGuard := false, park := false, record := none }

/-- The state of the part. `freeCount` is the MODEL's own: it numbers the free bytes of `Config.ignoredByte`.
`pending` is the queue of commands not yet taken, first in, first out. -/
structure State where
  supply : Supply
  coldMark : Bool
  timeBase : Moment
  store : Store
  startRec : StartRecord
  pins : Pins
  link : Link
  scanner : Scanner
  power : Power
  locks : PerBay BayLock
  ambient : Ambient
  backlight : Backlight
  motion : Motion
  drop : Drop
  freeCount : Nat
  pending : List Instr
deriving DecidableEq, Repr

/-- The faults a command can end in. There are none: the manual gives every command an effect in every state, and a
command whose event cannot come about as the part stands leaves the part as it is (log 3). -/
inductive Fault : Type
deriving DecidableEq, Repr

/-- The refusals. -/
inductive Refusal where
  /-- Raised by `exec` alone, for a command of the table that has no meaning yet. Safe: the model stops. -/
  | notModelled (mnemonic : String)
deriving DecidableEq, Repr

/-- The time base when a cold start ends, 28 ms after the power-up that found VAON above 6.0 V: the 20 ms wait of R18
and the 8 ms checks of R20 (DEDUCED, log 1). -/
def resetMoment : Moment := 28

/-- The part right after reset, that is, right after a cold start has ended with both checks passed, all inputs
released and the board's VAON already above 6.0 V at power-up (log 1). Every setting has its cold value, every block
its start values. The scanner has begun its first cycle (R34), the motion port, whose setup list is empty, has passed
its setup and entered STREAMING (R151), and LTX has taken the MOTION/STREAMING notice, which outranks START (R10).
`freeCount` is past the free bytes set aside for that notice (log 10). -/
def State.reset : State :=
  { supply := .run
    coldMark := false
    timeBase := resetMoment
    store := .cold
    startRec := { cause := .cold, retainLost := false, origin := .defaults, logicPass := true, memoryPass := true }
    pins := .released
    link := { Link.start with
      notices := [{ key := .start, causes := 1, slots := 0 }]
      ltx := some (.notice
        [8, 2, 0, 2, 0, 0, 0, 0, 0, 0, 0, 0, 0, 0, 0, 0, 0, 0, 0, 0, 0, 0, 0, 0, 0, 0, 1, 0, 0, 0]) }
    scanner := { Scanner.start with conv := .slot 0 [], period := some ⟨resetMoment, 10⟩ }
    power := .start
    locks := ⟨.start, .start⟩
    ambient := .start
    backlight := { Backlight.start with rampSince := resetMoment }
    motion := { Motion.start with port := .streaming, stall := some ⟨resetMoment, 60⟩ }
    drop := .start
    freeCount := 16
    pending := [] }

end Sys2Proof.Machine
end

