-- ==== Sys2Proof/Machine/Operands.lean ====
section
/-! DEFINITION. Operand forms: sources, bays and masks (R12), the fields of a request payload (R11), clamping (R1, R9),
and the little-endian encoding of what the part sends (R3, R11). -/

namespace Sys2Proof.Machine

/-! ### Sources and bays -/

/-- The value held for source `x`. -/
def PerSource.get {α : Type} (v : PerSource α) : Source → α
  | .dc => v.dc
  | .a => v.a
  | .b => v.b

/-- Replaces the value held for source `x`. -/
def PerSource.set {α : Type} (v : PerSource α) (x : Source) (y : α) : PerSource α :=
  match x with
  | .dc => { v with dc := y }
  | .a => { v with a := y }
  | .b => { v with b := y }

/-- The value held for bay `x`. -/
def PerBay.get {α : Type} (v : PerBay α) : Bay → α
  | .a => v.a
  | .b => v.b

/-- Replaces the value held for bay `x`. -/
def PerBay.set {α : Type} (v : PerBay α) (x : Bay) (y : α) : PerBay α :=
  match x with
  | .a => { v with a := y }
  | .b => { v with b := y }

/-- A bay as a source. -/
def baySource : Bay → Source
  | .a => .a
  | .b => .b

/-- The bay a source is, if it is one. -/
def sourceBay : Source → Option Bay
  | .dc => none
  | .a => some .a
  | .b => some .b

/-- The sources in the order DC, A, B (R9, R12). -/
def allSources : List Source := [.dc, .a, .b]

/-- The bays, bay A first. -/
def allBays : List Bay := [.a, .b]

/-- The empty set of sources. -/
def noSources : SourceSet := ⟨false, false, false⟩

/-- The set with one member. -/
def oneSource (x : Source) : SourceSet := noSources.set x true

/-- The set of the sources with the property `f`. -/
def sourceSetOf (f : Source → Bool) : SourceSet := ⟨f .dc, f .a, f .b⟩

/-- Whether the set has no member. -/
def SourceSet.isEmpty (m : SourceSet) : Bool := !m.dc && !m.a && !m.b

/-- How many members the set has. -/
def SourceSet.size (m : SourceSet) : Nat := m.dc.toNat + m.a.toNat + m.b.toNat

/-- Whether every member of `m` is in `n`. -/
def SourceSet.within (m n : SourceSet) : Bool := (!m.dc || n.dc) && (!m.a || n.a) && (!m.b || n.b)

/-- The members of `m` that are not in `n`. -/
def SourceSet.minus (m n : SourceSet) : SourceSet := ⟨m.dc && !n.dc, m.a && !n.a, m.b && !n.b⟩

/-- The members of a set in the order DC, A, B. -/
def SourceSet.members (m : SourceSet) : List Source := allSources.filter m.get

/-- The source mask of a set (R12). -/
def SourceSet.mask (m : SourceSet) : Byte :=
  BitVec.ofNat 8 (m.dc.toNat + 2 * m.a.toNat + 4 * m.b.toNat)

/-- A source mask, refused when it selects nothing or has any of bits 3 to 7 set (R12). -/
def sourceMask? (m : Byte) : Option SourceSet :=
  if m.toNat = 0 ∨ 8 ≤ m.toNat then none else some ⟨m.getLsbD 0, m.getLsbD 1, m.getLsbD 2⟩

/-- A bay mask, refused as a source mask is and when bit 0 is set (R12). -/
def bayMask? (m : Byte) : Option (PerBay Bool) :=
  match sourceMask? m with
  | some s => if s.dc then none else some ⟨s.a, s.b⟩
  | none => none

/-! ### Reading a payload (R11) -/

/-- The byte at offset `i`. -/
def byteAt (p : List Byte) (i : Nat) : Byte := p.getD i 0

/-- The 1-byte integer at offset `i`. -/
def u8 (p : List Byte) (i : Nat) : Nat := (byteAt p i).toNat

/-- The 2-byte integer at offset `i`. -/
def u16 (p : List Byte) (i : Nat) : Nat := u8 p i + 256 * u8 p (i + 1)

/-- The 4-byte integer at offset `i`. -/
def u32 (p : List Byte) (i : Nat) : Nat := u16 p i + 65536 * u16 p (i + 2)

/-- A 16-bit value read as two's complement. -/
def signed16 (n : Nat) : Int := if n < 32768 then (n : Int) else (n : Int) - 65536

/-- The signed 2-byte integer at offset `i`. -/
def s16 (p : List Byte) (i : Nat) : Int := signed16 (u16 p i)

/-- Whether the byte at offset `i` is a boolean or a presence byte: 0 or 1 (R9). -/
def isBool (p : List Byte) (i : Nat) : Bool := decide (u8 p i ≤ 1)

/-- The boolean at offset `i`. -/
def flagAt (p : List Byte) (i : Nat) : Bool := decide (u8 p i = 1)

/-- A converter input code (R28). -/
def input? (n : Nat) : Option Input :=
  if h : n < 16 then some (.ain ⟨n, h⟩) else if n = 16 then some .ref else none

/-- A divider code (R28). -/
def divider? : Nat → Option Divider
  | 0 => some .by1
  | 1 => some .by2
  | 2 => some .by4
  | 3 => some .by8
  | _ => none

/-- An average count (R39). -/
def averageCount? : Nat → Option AverageCount
  | 2 => some .two
  | 4 => some .four
  | 8 => some .eight
  | _ => none

/-- A conversion kind with its average count, which is checked only for AVERAGE (R39). -/
def convKind? (kind count : Nat) : Option ConvKind :=
  match kind with
  | 0 => some .single
  | 1 => (averageCount? count).map .average
  | 2 => some .settle
  | _ => none

/-- A presence select code (R69). -/
def presenceSelect? : Nat → Option PresenceSelect
  | 0 => some .pin
  | 1 => some .voltage
  | 2 => some .both
  | 3 => some .forced
  | _ => none

/-- A fault select code (R69). -/
def faultSelect? : Nat → Option FaultSelect
  | 0 => some .unwatched
  | 1 => some .pin
  | 2 => some .shared
  | 3 => some .current
  | 4 => some .forced
  | _ => none

/-- A policy code (R75). -/
def policy? : Nat → Option Policy
  | 0 => some .drainLower
  | 1 => some .drainAFirst
  | 2 => some .drainBFirst
  | 3 => some .share
  | _ => none

/-- A fallback code (R122). -/
def fallback? : Nat → Option Fallback
  | 0 => some .hold
  | 1 => some .fixed
  | _ => none

/-- A backlight mode code (R139). -/
def backlightMode? : Nat → Option BacklightMode
  | 0 => some .auto
  | 1 => some .manual
  | 2 => some .off
  | _ => none

/-- A rate code (R148). -/
def rate? : Nat → Option Rate
  | 0 => some .r400
  | 1 => some .r800
  | 2 => some .r1600
  | _ => none

/-- A RESTART option (R24). -/
def restartOption? : Nat → Option RestartOption
  | 0 => some .keep
  | 1 => some .defaults
  | _ => none

/-! ### Clamping (R1, R9) -/

/-- `v` moved to the nearer bound when it lies outside `lo` to `hi`. -/
def clampNat (v lo hi : Nat) : Nat := if v < lo then lo else if hi < v then hi else v

/-- `v` moved to the nearer bound when it lies outside `lo` to `hi`. -/
def clampInt (v lo hi : Int) : Int := if v < lo then lo else if hi < v then hi else v

/-- Whether `v` lies outside `lo` to `hi`, so that clamping moves it. -/
def outside (v lo hi : Nat) : Bool := decide (v < lo) || decide (hi < v)

/-- Whether `v` lies outside `lo` to `hi`, so that clamping moves it. -/
def outsideInt (v lo hi : Int) : Bool := decide (v < lo) || decide (hi < v)

/-! ### Encoding (R3, R11) -/

/-- A 1-byte integer. -/
def le8 (n : Nat) : List Byte := [BitVec.ofNat 8 n]

/-- A 2-byte integer, little-endian. -/
def le16 (n : Nat) : List Byte := [BitVec.ofNat 8 n, BitVec.ofNat 8 (n / 256)]

/-- A 4-byte integer, little-endian. -/
def le32 (n : Nat) : List Byte := le16 n ++ le16 (n / 65536)

/-- A signed 2-byte integer in two's complement. -/
def sle16 (v : Int) : List Byte := le16 (BitVec.ofInt 16 v).toNat

/-- A boolean byte. -/
def boolByte (b : Bool) : Byte := if b then 1 else 0

/-- A byte of flags, bit 0 first. -/
def flagByte (bits : List Bool) : Byte :=
  BitVec.ofNat 8 (bits.foldr (fun b n => b.toNat + 2 * n) 0)

/-- The status codes (R8). -/
def Status.code : Status → Byte
  | .ok => 0
  | .clamped => 1
  | .accepted => 2
  | .busy => 3
  | .badKind => 4
  | .badLength => 5
  | .badValue => 6
  | .badState => 7

/-- CLAMPED when a scalar was moved, and OK otherwise (R9). -/
def clampStatus (moved : Bool) : Status := if moved then .clamped else .ok

/-- The input codes (R39). -/
def Input.code : Input → Nat
  | .ain n => n.val
  | .ref => 16

/-- The divider codes (R39). -/
def Divider.code : Divider → Nat
  | .by1 => 0
  | .by2 => 1
  | .by4 => 2
  | .by8 => 3

/-- What a divider divides by (R28). -/
def Divider.factor : Divider → Nat
  | .by1 => 1
  | .by2 => 2
  | .by4 => 4
  | .by8 => 8

/-- The number of conversions an average count stands for. -/
def AverageCount.count : AverageCount → Nat
  | .two => 2
  | .four => 4
  | .eight => 8

/-- The conversion kind codes (R39). -/
def ConvKind.code : ConvKind → Nat
  | .single => 0
  | .average _ => 1
  | .settle => 2

/-- The average count as GET_SLOT sends it: 0 unless the kind is AVERAGE (R40). -/
def ConvKind.averageByte : ConvKind → Nat
  | .average n => n.count
  | _ => 0

/-- The limit state codes (R40). -/
def LimitState.code : LimitState → Nat
  | .unknown => 0
  | .inside => 1
  | .above => 2
  | .below => 3

/-- The reference state codes (R14). -/
def RefState.code : RefState → Nat
  | .normal => 0
  | .degraded => 1

/-- The source codes (R71, R94). -/
def sourceCode : Source → Nat
  | .dc => 0
  | .a => 1
  | .b => 2

/-- The source state codes (R71). -/
def SourceState.code : SourceState → Nat
  | .disabled => 0
  | .absent => 1
  | .qualify => 2
  | .standby => 3
  | .activeClosing => 4
  | .activeOn => 4
  | .releasingHeld => 5
  | .releasingOpen => 5
  | .fault _ => 6

/-- The substate codes (R71). -/
def SourceState.subcode : SourceState → Nat
  | .activeClosing => 1
  | .activeOn => 2
  | .releasingHeld => 1
  | .releasingOpen => 2
  | _ => 0

/-- The fault kind codes (R71). -/
def FaultKind.code : FaultKind → Nat
  | .overcurrentPin => 1
  | .overcurrentScan => 2
  | .shared => 3
  | .windowLow => 4
  | .windowHigh => 5
  | .switchFault => 6
  | .forced => 7

/-- The fault kind byte of a source record: 0 when absent (R71). -/
def SourceState.faultCode : SourceState → Nat
  | .fault k => k.code
  | _ => 0

/-- The policy codes (R75). -/
def Policy.code : Policy → Nat
  | .drainLower => 0
  | .drainAFirst => 1
  | .drainBFirst => 2
  | .share => 3

/-- The power condition codes (R12). -/
def Condition.code : Condition → Nat
  | .full => 0
  | .single => 1
  | .low => 2
  | .transfer => 3
  | .noSupply => 4

/-- The transfer kind codes (R94). -/
def TransferKind.code : TransferKind → Nat
  | .planned => 1
  | .release => 2
  | .breakLoad => 3

/-- The transfer step codes (R94). -/
def TransferStep.code : TransferStep → Nat
  | .closingIncoming => 1
  | .overlap _ => 2

/-- The lock state codes (R106). -/
def LockState.code : LockState → Nat
  | .free => 0
  | .engaging _ => 1
  | .locked => 2
  | .unlocking _ => 3
  | .jammed _ => 4

/-- The jam direction codes (R106). -/
def LockState.jamCode : LockState → Nat
  | .jammed .engage => 1
  | .jammed .release => 2
  | .jammed .slipped => 3
  | _ => 0

/-- The backlight mode codes (R139). -/
def BacklightMode.code : BacklightMode → Nat
  | .auto => 0
  | .manual => 1
  | .off => 2

/-- The validity codes (R110). -/
def Validity.code : Validity → Nat
  | .pending => 0
  | .valid => 1
  | .invalid => 2

/-- The range codes (R110). -/
def Range.code : Range → Nat
  | .low => 0
  | .high => 1

/-- The samples a rate takes in a second (R147). -/
def Rate.hz : Rate → Nat
  | .r400 => 400
  | .r800 => 800
  | .r1600 => 1600

/-- The port state codes (R161). -/
def PortState.code : PortState → Nat
  | .off => 0
  | .setup => 1
  | .streaming => 2
  | .lost => 3
  | .checking => 4

/-- The burst status codes (R161). -/
def BurstStatus.code : BurstStatus → Nat
  | .noBurst => 0
  | .complete => 1
  | .bad => 2

/-- The self-check outcome codes (R161). -/
def CheckOutcome.code : CheckOutcome → Nat
  | .noCheck => 0
  | .pass => 1
  | .fail => 2
  | .aborted => 3

/-- The drop state codes (R161). -/
def DropState.code : DropState → Nat
  | .suspended => 0
  | .calm => 1
  | .falling => 2
  | .impact => 3
  | .recover => 4

/-- The axis codes (R27). -/
def Axis.code : Axis → Nat
  | .x => 0
  | .y => 1
  | .z => 2

/-- The record kind codes (R27). -/
def RecordKind.code : RecordKind → Nat
  | .fallImpact => 1
  | .fallNoImpact => 2
  | .impactOnly => 3

/-- The start cause codes (R26). -/
def StartCause.code : StartCause → Nat
  | .cold => 0
  | .supply => 1
  | .requested => 2

/-- The settings origin codes (R26). -/
def Origin.code : Origin → Nat
  | .defaults => 0
  | .retained => 1

end Sys2Proof.Machine
end

