-- ==== Sys2Proof/Machine/Flags.lean ====
section
/-! DEFINITION. The values the part computes from what it holds: millivolts and limit states, the conditions on a
source, the power condition, the caps and the duty, WAKE_N, and the integer arithmetic of the shock records. -/

namespace Sys2Proof.Machine

/-! ### The scanner -/

/-- The millivolts of a code through a divider (R28). -/
def millivolts (code : Nat) (d : Divider) : Nat := (code * 2500 * d.factor + 2047) / 4095

/-- The mean of an averaged slot's codes, rounded half up (R30). -/
def meanCode (codes : List Nat) : Nat := (codes.sum + codes.length / 2) / codes.length

/-- Whether two successive codes agree (R31). -/
def codesAgree (tolerance new old : Nat) : Bool :=
  decide (new ≤ old + tolerance) && decide (old ≤ new + tolerance)

/-- The result of a slot's conversions: its code, its conversion count and UNSETTLED. -/
structure SlotEnd where
  code : Nat
  count : Nat
  unsettled : Bool
deriving DecidableEq, Repr

/-- What a slot's conversions come to (R30, R31), the codes newest first, or `none` while it converts on. -/
def slotOutcome (c : SlotSettings) (codes : List Nat) : Option SlotEnd :=
  match c.kind with
  | .single => some { code := codes.headD 0, count := 1, unsettled := false }
  | .average n =>
    if n.count ≤ codes.length then some { code := meanCode codes, count := n.count, unsettled := false } else none
  | .settle =>
    match codes with
    | new :: old :: _ =>
      if codesAgree c.tolerance new old then some { code := new, count := codes.length, unsettled := false }
      else if c.maximum ≤ codes.length then some { code := new, count := codes.length, unsettled := true }
      else none
    | _ => none

/-- Whether `mv` is above a limit; false when the limit is absent (R37). -/
def aboveHigh (high : Option Nat) (mv : Nat) : Bool :=
  match high with | some h => decide (h < mv) | none => false

/-- Whether `mv` is below a limit; false when the limit is absent (R37). -/
def belowLow (low : Option Nat) (mv : Nat) : Bool :=
  match low with | some l => decide (mv < l) | none => false

/-- Whether `mv` is at or below high less the hysteresis (R37). -/
def backFromHigh (high : Option Nat) (h mv : Nat) : Bool :=
  match high with | some v => decide (mv + h ≤ v) | none => false

/-- Whether `mv` is at or above low plus the hysteresis (R37). -/
def backFromLow (low : Option Nat) (h mv : Nat) : Bool :=
  match low with | some v => decide (v + h ≤ mv) | none => false

/-- The limit state after a result (R37). -/
def limitNext (c : SlotSettings) (held : LimitState) (mv : Nat) : LimitState :=
  if c.low.isNone && c.high.isNone then held
  else match held with
  | .unknown | .inside =>
    if aboveHigh c.high mv then .above else if belowLow c.low mv then .below else .inside
  | .above =>
    if belowLow c.low mv then .below else if backFromHigh c.high c.hysteresis mv then .inside else .above
  | .below =>
    if aboveHigh c.high mv then .above else if backFromLow c.low c.hysteresis mv then .inside else .below

/-- The panel temperature of a slot 6 result (R46), absent while unknown. -/
def panelTemperature (c : ScanSettings) (ref : RefState) (mv : Nat) : Option Int :=
  if mv < 50 ∨ 2450 < mv ∨ ref = .degraded then none
  else some (clampInt ((((mv : Int) - c.zeroMv) * c.gain).tdiv 1000) (-400) 1500)

/-! ### Sources -/

/-- Whether a source in this state has its switch closed (R51). -/
def SourceState.closed : SourceState → Bool
  | .activeClosing | .activeOn | .releasingHeld => true
  | _ => false

/-- Whether a source in this state takes faults (R60). -/
def SourceState.takesFaults : SourceState → Bool
  | .qualify | .standby | .activeClosing | .activeOn | .releasingHeld | .releasingOpen => true
  | _ => false

/-- Whether a source in this state is eligible (R73). -/
def SourceState.eligible : SourceState → Bool
  | .standby | .activeOn => true
  | _ => false

/-- Whether a change between two states calls an evaluation (R76): entering or leaving STANDBY, ACTIVE/ON or
RELEASING/HELD, and leaving ACTIVE/CLOSING. -/
def callsEvaluation (old new : SourceState) : Bool :=
  decide (old ≠ new) &&
    (old == .standby || new == .standby || old == .activeOn || new == .activeOn || old == .releasingHeld ||
      new == .releasingHeld || old == .activeClosing)

/-- The presence debounce, in ms: 20 for DC and 5 for a bay (R49). -/
def presenceDebounce : Source → Nat
  | .dc => 20
  | _ => 5

/-- The ride-through a bay's times are lengthened by while the contact guard is on (R54, R59). -/
def rideThrough (p : PowerSettings) (guarded : Bool) (x : Source) : Nat :=
  match sourceBay x with
  | some bay => if guarded then (p.bays.get bay).rideThrough else 0
  | none => 0

/-- The presence hold time in force (R54). -/
def presenceHold (p : PowerSettings) (guarded : Bool) (x : Source) : Nat :=
  presenceDebounce x + rideThrough p guarded x

/-- The violation time in force in ACTIVE/ON (R59). -/
def faultWindowTime (p : PowerSettings) (guarded : Bool) (x : Source) : Nat :=
  (p.sources.get x).violationTime + rideThrough p guarded x

/-- The side a reading lies on outside the window; none at either bound and between (R57). -/
def outOfWindow (c : SourceSettings) (mv : Nat) : Option Side :=
  if mv < c.windowLow then some .low else if c.windowHigh < mv then some .high else none

/-- The presence indication of a source (R53) (DEDUCED, log 28). -/
def indication (c : SourceSettings) (pin : Bool) (lastCounted : Option Nat) : Bool :=
  let volts := match lastCounted with | some mv => decide (c.threshold < mv) | none => false
  match c.presence with
  | .pin => pin
  | .voltage => volts
  | .both => pin && volts
  | .forced => true

/-- The fault kind of the fault condition that holds on a source, if one holds (R52). -/
def faultCondition (c : SourceSettings) (pins : Pins) (x : Source) : Option FaultKind :=
  match c.faultSelect with
  | .pin => if pins.flt.get x then some .overcurrentPin else none
  | .shared => if pins.fltShared then some .shared else none
  | .forced => some .forced
  | .unwatched | .current => none

/-- The feeding set: the sources whose switches are closed (R73). -/
def Power.feeding (p : Power) : SourceSet := sourceSetOf fun x => (p.src.get x).state.closed

/-- Whether a source is eligible (R73). -/
def Power.eligible (p : Power) (x : Source) : Bool := (p.src.get x).state.eligible

/-- The power condition: the first value whose test holds (R93). -/
def Power.conditionNow (p : Power) : Condition :=
  let any := fun f => (allSources.any fun x => f (p.src.get x))
  if p.transfer.isSome || any (fun r => r.state == .releasingHeld) then .transfer
  else if !any (fun r => r.state == .activeOn) then .noSupply
  else if p.src.dc.state == .activeOn
      || (p.src.a.state.eligible && !p.src.a.drained && p.src.b.state.eligible && !p.src.b.drained) then .full
  else if allSources.all (fun x => (p.src.get x).state != .activeOn || ((sourceBay x).isSome && (p.src.get x).drained))
    then .low
  else .single

/-- Whether SOLE is held on a bay (R92) (also during a closing: log 17). -/
def Power.soleHolds (p : Power) (lockSole : Bool) (bay : Bay) : Bool :=
  let st := (p.src.get (baySource bay)).state
  lockSole && (st == .activeOn || st == .releasingHeld) &&
    !(allSources.any fun x => x != baySource bay && p.eligible x)

/-- Whether TRANSFER is held on a bay: it is the incoming source of the transfer in flight (R92). -/
def Power.transferHolds (p : Power) (bay : Bay) : Bool :=
  match p.transfer with | some t => t.incoming == baySource bay | none => false

/-! ### Locks -/

/-- Whether the reason set is empty (R95). -/
def Reasons.isEmpty (r : Reasons) : Bool := !r.sole && !r.transfer && !r.drop && !r.host

/-- The whole milliseconds left in the sense window, 1 to 50 while it runs and 0 when it is stopped (R106). -/
def windowRemaining (l : LockState) (now : Moment) : Nat :=
  match l with
  | .engaging since | .unlocking since => clampNat (50 - (now - since).toNat) 1 50
  | _ => 0

/-! ### Backlight -/

/-- The caps table's entry for a condition (R133). -/
def Caps.entry (c : Caps) : Condition → Nat
  | .full => c.full
  | .single => c.single
  | .low => c.low
  | .transfer => c.transfer
  | .noSupply => c.noSupply

/-- The thermal cap (R134). -/
def thermalCapOf (c : BacklightScalars) : Option Int → Nat
  | none => c.unknownCap
  | some t =>
    if t ≤ c.ts then 1000
    else if c.te ≤ t then c.cmin
    else 1000 - ((1000 - c.cmin) * (t - c.ts).toNat) / (c.te - c.ts).toNat

/-- The duty of a level, by the formula of R138, also where its sentence on level 1 says otherwise, at a span of 1500 or
more (DEDUCED, log 46). -/
def dutyOf (c : BacklightScalars) (level : Nat) : Nat :=
  if level = 0 then 0 else c.dmin + (level * (c.dmax - c.dmin) + 500) / 1000

/-- The cap binding: the target is set and the effective cap is below it (R135). -/
def bindingOf (target : Option Nat) (cap : Nat) : Bool :=
  match target with | some t => decide (cap < t) | none => false

/-- The level on the segment from `p` to `q` at `x` quarter-lux (R129). -/
def segmentLevel (p q : CurvePoint) (x : Nat) : Nat :=
  let rise : Int := (q.level : Int) - p.level
  let run : Int := (q.lux : Int) * 4 - p.lux * 4
  ((p.level : Int) + (rise * ((x : Int) - p.lux * 4)).tdiv run).toNat

/-- The curve level at `x` quarter-lux, from the first point on (R129). -/
def curveLevel : List CurvePoint → Nat → Nat
  | [], _ => 0
  | [p], _ => p.level
  | p :: q :: rest, x =>
    if x ≤ p.lux * 4 then p.level
    else if x < q.lux * 4 then segmentLevel p q x
    else curveLevel (q :: rest) x

/-! ### The link -/

/-- The class of a key (R13). -/
def NoticeKey.cls : NoticeKey → NoticeClass
  | .transfer | .drop | .power => .urgent
  | .sourceDc | .sourceA | .sourceB | .lock | .motion | .limit => .normal
  | .backlight | .link | .start => .low

/-- The level of WAKE_N: asserted in QUIET while an URGENT entry is queued (R16). -/
def wakeLevel (mode : LinkMode) (notices : List Entry) : Bool :=
  mode == .quiet && notices.any fun e => e.key.cls == .urgent

/-! ### Shock records -/

/-- One bit of the integer square root: the larger of `r` and `r + 2^bit` whose square is at most `n`. -/
def isqrtBit (n r bit : Nat) : Nat := if (r + 2 ^ bit) * (r + 2 ^ bit) ≤ n then r + 2 ^ bit else r

/-- The integer square root by bits, from `bits` down. -/
def isqrtFrom (n : Nat) : Nat → Nat → Nat
  | 0, r => r
  | bits + 1, r => isqrtFrom n bits (isqrtBit n r bits)

/-- The floor of the square root of `n` (R1). -/
def isqrt (n : Nat) : Nat := isqrtFrom n (n.log2 / 2 + 1) 0

/-- The number of samples in a time (R147). -/
def sampleCount (ms : Nat) (rate : Rate) : Nat := (ms * rate.hz + 999) / 1000

/-- The fall group of a fall of `n` samples (R172). -/
def fallGroup (n : Nat) (rate : Rate) : FallGroup :=
  { fallMs := n * 1000 / rate.hz
    heightMm := clampNat (9807 * n ^ 2 / (2 * rate.hz ^ 2)) 0 65535 }

/-- The impact group of a peak (R172). -/
def impactGroup (p : Peak) (rate : Rate) : ImpactGroup :=
  { peakMg := isqrt p.m2, axis := p.axis, impactMs := p.k * 1000 / rate.hz }

/-- The squared magnitude of a sample (R163). -/
def magnitude2 (v : Vec3) : Nat := v.x.natAbs ^ 2 + v.y.natAbs ^ 2 + v.z.natAbs ^ 2

/-- The class of a squared magnitude under the thresholds held (R163). -/
def classify (c : MotionScalars) (m2 : Nat) : SampleClass :=
  if m2 < c.tff ^ 2 then .low else if c.timp ^ 2 < m2 then .high else .ordinary

/-- The axis with the largest absolute value, X before Y before Z (R169). -/
def peakAxis (v : Vec3) : Axis :=
  if v.y.natAbs ≤ v.x.natAbs ∧ v.z.natAbs ≤ v.x.natAbs then .x
  else if v.z.natAbs ≤ v.y.natAbs then .y else .z

end Sys2Proof.Machine
end

