-- ==== Sys2Proof/Machine/Bodies.lean ====
section
/-! DEFINITION. What the part sends: the frame and its CRC (R3), the bodies of the GET replies, which are also the
snapshots of the notices (R14), and the encoding of a shock record (R27). -/

namespace Sys2Proof.Machine

/-! ### The frame -/

/-- One bit of the CRC-8 with polynomial x^8 + x^2 + x + 1 (R3). -/
def crcBit (c : Byte) : Byte := if c.getLsbD 7 then (c <<< 1) ^^^ 0x07 else c <<< 1

/-- The CRC after one more byte (R3). -/
def crcByte (c b : Byte) : Byte :=
  crcBit (crcBit (crcBit (crcBit (crcBit (crcBit (crcBit (crcBit (c ^^^ b))))))))

/-- The CRC over bytes in the order they travel, from an initial value of 0 (R3). -/
def crc8 (bytes : List Byte) : Byte := bytes.foldl crcByte 0

/-- A whole frame: start byte, LEN, KIND, TAG, payload and CRC (R3). -/
def frameBytes (kind tag : Byte) (payload : List Byte) : List Byte :=
  let covered := BitVec.ofNat 8 (payload.length + 2) :: kind :: tag :: payload
  0xC3 :: covered ++ [crc8 covered]

/-- The KIND of the reply to a request: KIND + 0x80, or 0xFF when the request's KIND is 0x80 or above (R3, R5). -/
def replyKind (kind : Byte) : Byte := if 0x80 ≤ kind.toNat then 0xFF else kind + 0x80

/-- The bytes LTX sends for what it is sending (R3): a reply with its KIND and TAG, a notice with KIND 0xC0 and TAG 0. -/
def Sending.bytes : Sending → List Byte
  | .reply r => frameBytes r.kind r.tag r.payload
  | .notice payload => frameBytes 0xC0 0 payload

/-! ### Notices -/

/-- The key of a source's notices (R68). -/
def sourceKey : Source → NoticeKey
  | .dc => .sourceDc
  | .a => .sourceA
  | .b => .sourceB

/-- The key a cause is posted under (R13). -/
def Cause.key : Cause → NoticeKey
  | .transferDone | .transferFailed | .noReserve | .releaseHeld => .transfer
  | .dropFalling | .dropImpact | .dropRecord | .dropCalm => .drop
  | .conditionChanged => .power
  | .sourceState x | .sourceAttach x | .sourceDetach x | .sourceFault x | .sourceDrained x | .latchWhileLocked x =>
    sourceKey x
  | .lockState | .lockJammed => .lock
  | .motionLost | .motionStreaming | .checkDone => .motion
  | .limitCrossing _ | .limitDegraded | .limitRecovered => .limit
  | .ambientValidity | .capEngaged | .capReleased => .backlight
  | .linkGap | .linkLength | .linkCrc => .link
  | .startCold | .startSupply | .startRequested | .startRetainLost => .start

/-- The bit of a cause in the causes field of its notice (R13). -/
def Cause.bit : Cause → Nat
  | .transferDone | .dropFalling | .conditionChanged | .sourceState _ | .lockState | .motionLost | .limitCrossing _
  | .ambientValidity | .linkGap | .startCold => 0
  | .transferFailed | .dropImpact | .sourceAttach _ | .lockJammed | .motionStreaming | .limitDegraded | .capEngaged
  | .linkLength | .startSupply => 1
  | .noReserve | .dropRecord | .sourceDetach _ | .checkDone | .limitRecovered | .capReleased | .linkCrc
  | .startRequested => 2
  | .releaseHeld | .dropCalm | .sourceFault _ | .startRetainLost => 3
  | .sourceDrained _ => 4
  | .latchWhileLocked _ => 5

/-- The causes mask of a cause. -/
def Cause.mask (c : Cause) : BitVec 16 := 1 <<< c.bit

/-- The slot set a cause adds: a LIMIT/CROSSING post adds its slot (R13). -/
def Cause.slotMask : Cause → BitVec 16
  | .limitCrossing n => 1 <<< n.val
  | _ => 0

/-- The key codes (R13). -/
def NoticeKey.code : NoticeKey → Nat
  | .transfer => 1
  | .drop => 2
  | .power => 3
  | .sourceDc => 4
  | .sourceA => 5
  | .sourceB => 6
  | .lock => 7
  | .motion => 8
  | .limit => 9
  | .backlight => 10
  | .link => 11
  | .start => 12

/-! ### Bodies -/

/-- `count` bytes the manual calls "sent and ignored", numbered from `n`: free values (R11; DESIGN CHOICE, log 10). -/
def ignored (n count : Nat) : List Byte := (List.range count).map fun i => Config.ignoredByte (n + i)

/-- The IDENTIFY body (R26). -/
def identifyBody (s : State) : List Byte :=
  le16 0x3140 ++ le8 2 ++ le8 s.startRec.cause.code ++ [boolByte s.startRec.retainLost]
    ++ [boolByte (!s.startRec.logicPass), boolByte (!s.startRec.memoryPass)]
    ++ le8 s.startRec.origin.code ++ le32 s.timeBase.toNat

/-- An optional limit: its presence byte and its value, 0 when absent (R40). -/
def optionalLimit (v : Option Nat) : List Byte :=
  match v with | some n => 1 :: le16 n | none => 0 :: le16 0

/-- The GET_SLOT body (R40). -/
def slotBody (s : State) (n : Fin 16) : List Byte :=
  let c := s.store.settings.scan.slots[n]
  le8 n.val ++ [boolByte c.enabled] ++ le8 c.input.code ++ le8 c.divider.code ++ le8 c.kind.code
    ++ le8 c.kind.averageByte ++ le8 c.tolerance ++ le8 c.maximum ++ optionalLimit c.low ++ optionalLimit c.high
    ++ le16 c.hysteresis ++ le8 s.scanner.slots[n].limit.code

/-- An entry of READ_RESULTS (R42). -/
def resultEntry (s : State) (n : Fin 16) : List Byte :=
  let r := s.scanner.slots[n]
  le8 n.val ++ le16 r.code ++ le16 r.mv ++ [flagByte [r.valid, r.unsettled, r.degraded, r.crossed]]
    ++ le8 r.count ++ le8 r.limit.code

/-- A GET_SOURCE record (R71). -/
def sourceRecord (s : State) (x : Source) : List Byte :=
  let r := s.power.src.get x
  le8 (sourceCode x) ++ le8 r.state.code ++ le8 r.state.subcode ++ le8 r.state.faultCode
    ++ [flagByte [r.drained, r.attachSeen, r.detachSeen, r.presence, r.latchOpen, r.switch]]
    ++ le16 r.lastVoltage ++ le16 r.lastCurrent

/-- The transfer record of GET_POWER: presence byte and nine bytes, ignored when no transfer is in flight (R94). -/
def transferBytes (s : State) : List Byte :=
  match s.power.transfer with
  | some t =>
    1 :: le8 t.kind.code ++ [t.outgoing.mask] ++ le8 (sourceCode t.incoming) ++ le8 t.step.code
      ++ le32 t.startMs.toNat ++ [t.tried.mask]
  | none => 0 :: ignored s.freeCount 9

/-- The GET_POWER body (R94). -/
def powerBody (s : State) : List Byte :=
  le8 s.power.condition.code ++ [s.power.feeding.mask] ++ le8 s.store.settings.power.policy.code
    ++ le8 s.store.settings.power.overlap ++ [boolByte s.store.settings.power.lockSole, boolByte s.power.deferred]
    ++ transferBytes s

/-- A GET_LOCKS record (R106). -/
def lockRecord (s : State) (x : Bay) : List Byte :=
  let l := s.locks.get x
  le8 (sourceCode (baySource x)) ++ [flagByte [l.reasons.sole, l.reasons.transfer, l.reasons.drop, l.reasons.host]]
    ++ le8 l.state.code ++ le8 l.state.jamCode ++ [flagByte [l.drive, l.sense, l.reasons.host]]
    ++ le8 (windowRemaining l.state s.timeBase)

/-- The GET_LOCKS body: both bays, bay A first (R106). -/
def locksBody (s : State) : List Byte := lockRecord s .a ++ lockRecord s .b

/-- An optional field of a reply: its presence byte and its value bytes, free when it is absent (R11). -/
def optionalField (n count : Nat) (v : Option (List Byte)) : List Byte :=
  match v with | some bytes => 1 :: bytes | none => 0 :: ignored n count

/-- The GET_BACKLIGHT body (R144). -/
def backlightBody (s : State) : List Byte :=
  let b := s.backlight
  le8 s.store.settings.backlight.scalars.mode.code
    ++ optionalField s.freeCount 4 (s.ambient.filter.map fun f => le32 (f.avg / 4))
    ++ le8 s.ambient.validity.code ++ le8 s.ambient.range.code
    ++ optionalField (s.freeCount + 4) 2 (b.target.map le16) ++ le16 b.powerCap ++ le16 b.thermalCap
    ++ optionalField (s.freeCount + 6) 2 (b.temperature.map sle16) ++ le16 b.level ++ le16 b.duty
    ++ [boolByte b.lidClosed, flagByte [b.blEn, b.binding]]

/-- A baseline or delta value of GET_MOTION: 2 bytes, signed (R161). A value that does not fit them is sent as a
free word (DESIGN CHOICE, log 11). -/
def motionWord (v : Int) : List Byte :=
  if -32768 ≤ v ∧ v ≤ 32767 then sle16 v else le16 (Config.wideMotionWord v).toNat

/-- The three values of a vector in GET_MOTION (R161). -/
def motionWords (v : Vec3) : List Byte := motionWord v.x ++ motionWord v.y ++ motionWord v.z

/-- The seq that the next write will assign (R181). -/
def nextAssigned (nextSeq : Nat) : Nat := if nextSeq = 4294967295 then 1 else nextSeq

/-- The GET_MOTION body (R161). -/
def motionBody (s : State) : List Byte :=
  let m := s.motion
  le8 m.port.code ++ le8 m.burstStatus.code ++ le8 m.badCount ++ le8 m.failEntry ++ le32 m.nextIndex.toNat
    ++ le8 m.result.outcome.code ++ le8 m.result.stage ++ motionWords m.result.baseline ++ motionWords m.result.delta
    ++ le8 s.drop.state.code ++ le32 (nextAssigned s.store.nextSeq)

/-- The snapshot of a key's subject (R14). -/
def snapshot (s : State) : NoticeKey → List Byte
  | .transfer | .power => powerBody s
  | .drop | .motion => motionBody s
  | .sourceDc => sourceRecord s .dc
  | .sourceA => sourceRecord s .a
  | .sourceB => sourceRecord s .b
  | .lock => locksBody s
  | .limit => le8 s.scanner.ref.code
  | .backlight => backlightBody s
  | .link => []
  | .start => identifyBody s

/-- The payload of a notice built from an entry (R14). -/
def noticePayload (s : State) (e : Entry) : List Byte :=
  le8 e.key.code ++ le16 e.causes.toNat ++ (if e.key = .limit then le16 e.slots.toNat else []) ++ snapshot s e.key

/-! ### Shock records -/

/-- The total size of an encoded record (R27). -/
def ShockRecord.size (r : ShockRecord) : Nat :=
  13 + (if r.fall.isSome then 4 else 0) + (if r.impact.isSome then 5 else 0) + (if r.follows.isSome then 4 else 0)

/-- A record as READ_LOG sends it (R27). -/
def ShockRecord.encode (r : ShockRecord) : List Byte :=
  le8 r.size ++ le32 r.seq ++ le32 r.time.toNat ++ le8 r.kind.code
    ++ [flagByte [r.truncated, r.bounce, r.guardUsed, r.lockLate, r.long]]
    ++ le8 r.condition.code ++ [r.feeding.mask]
    ++ (match r.fall with | some f => le16 f.fallMs ++ le16 f.heightMm | none => [])
    ++ (match r.impact with
        | some i => le16 (clampNat i.peakMg 0 65535) ++ le8 i.axis.code ++ le16 (clampNat i.impactMs 0 65535)
        | none => [])
    ++ (match r.follows with | some q => le32 q | none => [])

end Sys2Proof.Machine
end

