-- ==== Sys2Proof/Machine/Ops.lean ====
section
/-! DEFINITION. The shared operations: named updates of the state, time, posting a notice (R13), the request queue and
the reply list (R5 to R7), LTX's choice (R10), and the close of every act. -/

namespace Sys2Proof.Machine

/-! ### Named updates -/

def State.setSupply (s : State) (v : Supply) : State := { s with supply := v }
def State.setColdMark (s : State) (v : Bool) : State := { s with coldMark := v }
def State.setTimeBase (s : State) (v : Moment) : State := { s with timeBase := v }
def State.setStore (s : State) (v : Store) : State := { s with store := v }
def State.setStartRec (s : State) (v : StartRecord) : State := { s with startRec := v }
def State.setPins (s : State) (v : Pins) : State := { s with pins := v }
def State.setLink (s : State) (v : Link) : State := { s with link := v }
def State.setScanner (s : State) (v : Scanner) : State := { s with scanner := v }
def State.setPower (s : State) (v : Power) : State := { s with power := v }
def State.setLocks (s : State) (v : PerBay BayLock) : State := { s with locks := v }
def State.setAmbient (s : State) (v : Ambient) : State := { s with ambient := v }
def State.setBacklight (s : State) (v : Backlight) : State := { s with backlight := v }
def State.setMotion (s : State) (v : Motion) : State := { s with motion := v }
def State.setDrop (s : State) (v : Drop) : State := { s with drop := v }
def State.setFreeCount (s : State) (v : Nat) : State := { s with freeCount := v }
def State.setPending (s : State) (v : List Instr) : State := { s with pending := v }

/-- The settings the retained store holds. -/
def State.settings (s : State) : Settings := s.store.settings

/-- Stores settings; the new check word is made with the change (R22). -/
def State.setSettings (s : State) (v : Settings) : State :=
  s.setStore (Store.withWord { s.store with settings := v })

/-! ### Time -/

/-- The milliseconds the time base has counted since a moment, modulo its wrap (R23). -/
def elapsed (s : State) (since : Moment) : Nat := (s.timeBase - since).toNat

/-- Whether a time of `length` ms that began at `since` has been reached (log 5). -/
def timeReached (s : State) (since : Moment) (length : Nat) : Bool := decide (length ≤ elapsed s since)

/-- Whether a time that may not be running has been reached. -/
def reachedSince (s : State) (since : Option Moment) (length : Nat) : Bool :=
  match since with | some m => timeReached s m length | none => false

/-- Whether a timer that may not be running has expired. -/
def timerReached (s : State) (t : Option Timer) : Bool :=
  match t with | some t => timeReached s t.since t.length | none => false

/-! ### Notices -/

/-- Posting a cause in a notice queue: ORed into the key's entry in its place, or in a new entry after all others (R13). -/
def postEntry (c : Cause) : List Entry → List Entry
  | [] => [{ key := c.key, causes := c.mask, slots := c.slotMask }]
  | e :: rest =>
    if e.key = c.key then { e with causes := e.causes ||| c.mask, slots := e.slots ||| c.slotMask } :: rest
    else e :: postEntry c rest

/-- Posts a cause (R13). -/
def post (c : Cause) (s : State) : State :=
  s.setLink { s.link with notices := postEntry c s.link.notices }

/-- Posts a cause when `b` holds. -/
def postIf (b : Bool) (c : Cause) (s : State) : State := if b then post c s else s

/-! ### LTX -/

/-- The first entry of a class, the oldest, and the entries without it (R10). -/
def takeClass (k : NoticeClass) : List Entry → Option (Entry × List Entry)
  | [] => none
  | e :: rest =>
    if e.key.cls = k then some (e, rest)
    else (takeClass k rest).map fun r => (r.1, e :: r.2)

/-- The oldest entry of the highest class present, and the entries without it (R10). -/
def takeNotice (q : List Entry) : Option (Entry × List Entry) :=
  (takeClass .urgent q).orElse fun _ => (takeClass .normal q).orElse fun _ => takeClass .low q

/-- The free bytes a body may use; each body built takes them anew (log 10). -/
def freeStride : Nat := 16

/-- LTX's choice whenever it is free (R10): the reply at the head of the reply list; else, in TALK, a notice made from
the oldest entry of the highest class, which leaves the queue at that moment (R14); else nothing. -/
def ltxChoose (s : State) : State :=
  match s.link.ltx with
  | some _ => s
  | none =>
    match s.link.replies with
    | r :: _ => s.setLink { s.link with ltx := some (.reply r) }
    | [] =>
      match s.link.mode with
      | .quiet => s
      | .talk =>
        match takeNotice s.link.notices with
        | none => s
        | some (e, rest) =>
          (s.setLink { s.link with ltx := some (.notice (noticePayload s e)), notices := rest }).setFreeCount
            (s.freeCount + freeStride)

/-- Drives WAKE_N to its level (R16). -/
def setWake (s : State) : State := s.setLink { s.link with wakeN := wakeLevel s.link.mode s.link.notices }

/-- Closes an act in RUN: LTX chooses if it is free, and WAKE_N takes its level (DEDUCED, log 7). -/
def finish (s : State) : State := setWake (ltxChoose s)

/-- A command whose event comes about in RUN alone: its act, closed; in every other supply state nothing (R17, R20). -/
def inRun (act : State → State) (s : State) : Host.Outcome State Fault Refusal :=
  match s.supply with
  | .run => .next (finish (act s))
  | _ => .next s

/-- A change of an input pin: the pin takes its level in every supply state, and the blocks act on it in RUN. -/
def onPin (pins : Pins) (act : State → State) (s : State) : Host.Outcome State Fault Refusal :=
  match s.supply with
  | .run => .next (finish (act (s.setPins pins)))
  | _ => .next (s.setPins pins)

/-! ### Requests and replies -/

/-- What serving a request gives (R6): the state after it, and the reply payload, absent while the reply is not ready yet. -/
structure Served where
  state : State
  reply : Option (List Byte)
deriving DecidableEq, Repr

/-- A request that fails a check changes nothing, and its reply carries the status alone (R8). -/
def refuse (st : Status) (s : State) : Served := ⟨s, some [st.code]⟩

/-- A reply with a status and a body. -/
def answer (st : Status) (body : List Byte) (s : State) : Served := ⟨s, some (st.code :: body)⟩

/-- The length check of R8, then the rest of the checks and the effect (log 34). -/
def withLength (p : List Byte) (n : Nat) (s : State) (k : Unit → Served) : Served :=
  if p.length = n then k () else refuse .badLength s

/-- Adds a reply to the end of the reply list (R7). -/
def addReply (r : Reply) (s : State) : State := s.setLink { s.link with replies := s.link.replies ++ [r] }

/-- How many BUSY replies wait (R7). -/
def busyCount (l : List Reply) : Nat := (l.filter (·.busy)).length

/-- Hands a delivered frame on (R5): TAG 0 is discarded; a request takes a free place of the request queue; else it is
answered BUSY if a BUSY place of the reply list is free, and discarded if none is. -/
def deliver (kind tag : Byte) (payload : List Byte) (s : State) : State :=
  if tag = 0 then s
  else if s.link.queue.length < 2 then
    s.setLink { s.link with queue := s.link.queue ++ [{ kind := kind, tag := tag, payload := payload, served := false }] }
  else if busyCount s.link.replies < 3 then
    addReply { kind := replyKind kind, tag := tag, payload := [Status.busy.code], busy := true } s
  else s

/-- Marks the served request as served and, when its reply is ready, adds the reply to the list (R6). -/
def noteServed (r : Request) (rest : List Request) (out : Served) : State :=
  let s := out.state.setLink { out.state.link with queue := { r with served := true } :: rest }
  match out.reply with
  | some bytes => addReply { kind := replyKind r.kind, tag := r.tag, payload := bytes, busy := false } s
  | none => s

/-- Serves the request at the head of the queue, if it is not served yet (R6). -/
def serveHead (serve : List Byte → State → Served) (s : State) : State :=
  match s.link.queue with
  | r :: rest => if r.served then s else noteServed r rest (serve r.payload s)
  | [] => s

/-- Whether the served place holds exactly this request, not yet served. -/
def awaitsService (kind tag : Byte) (payload : List Byte) (s : State) : Bool :=
  s.link.queue.head? == some { kind := kind, tag := tag, payload := payload, served := false }

/-- The service of a request (R6; log 6): the request at the head of the queue when it is this one and not yet served;
else the request's frame arrives whole (R5) and is served at once if it becomes the served request. -/
def serveRequest (kind : Byte) (serve : List Byte → State → Served) (tag : Byte) (payload : List Byte) (s : State) :
    State :=
  if awaitsService kind tag payload s then serveHead serve s
  else if s.link.queue.isEmpty then serveHead serve (deliver kind tag payload s)
  else deliver kind tag payload s

/-- A request command: its service in RUN. In every other supply state the link takes no byte (R4). -/
def request (kind : Byte) (serve : List Byte → State → Served) (tag : Byte) (payload : List Byte) (s : State) :
    Host.Outcome State Fault Refusal :=
  inRun (serveRequest kind serve tag payload) s

/-- A body that may hold free bytes was built: the next one takes fresh ones (log 10). -/
def takeFree (s : State) : State := s.setFreeCount (s.freeCount + freeStride)

end Sys2Proof.Machine
end

