-- ==== Sys2Proof/Machine/Backlight.lean ====
section
/-! DEFINITION. The backlight controller (chapter 7): what its neighbours hand in, the target, the caps with the cut,
the ramp and the duty, and its commands. -/

namespace Sys2Proof.Machine

/-- The controller with its caps, binding, level and duty agreeing with what it holds: the caps of R133 to R135, the
cut of R136 and the duty of R138. -/
def Backlight.settled (b : Backlight) (c : BacklightSettings) : Backlight :=
  let powerCap := c.caps.entry b.condition
  let thermalCap := thermalCapOf c.scalars b.temperature
  let cap := min powerCap thermalCap
  let level := min b.level cap
  { b with
    powerCap := powerCap
    thermalCap := thermalCap
    effectiveCap := cap
    binding := bindingOf b.target cap
    level := level
    duty := dutyOf c.scalars level
    blEn := decide (level ≠ 0) }

/-- Closes an act on the backlight controller: it is settled, and a change of the cap binding is posted (R135). -/
def settleBacklight (s : State) : State :=
  let b := s.backlight.settled s.settings.backlight
  postIf (!s.backlight.binding && b.binding) .capEngaged
    (postIf (s.backlight.binding && !b.binding) .capReleased (s.setBacklight b))

/-- One act of the backlight controller: a change of what it holds, settled. -/
def actBacklight (f : Backlight → Backlight) (s : State) : State := settleBacklight (s.setBacklight (f s.backlight))

/-- The level the curve and the bias give for the working ambient (R130). -/
def curveTarget (c : BacklightSettings) (x : Nat) : Nat :=
  (clampInt ((curveLevel c.curve x : Int) + c.scalars.bias) 0 1000).toNat

/-- How far apart two levels are. -/
def levelGap (m n : Nat) : Nat := (m - n) + (n - m)

/-- A computation of the target in AUTO (R130): directly, or through the hysteresis step. Without a working ambient no
computation is made. -/
def computeTarget (direct : Bool) (c : BacklightSettings) (b : Backlight) : Option Nat :=
  match b.ambient with
  | none => b.target
  | some x =>
    match b.target with
    | none => some (curveTarget c x)
    | some t =>
      if direct || decide (c.scalars.hysteresis ≤ levelGap (curveTarget c x) t) then some (curveTarget c x) else some t

/-- An ambient value handed by the ambient front end (R127): stored in every mode, and in AUTO it computes the target. -/
def takeAmbient (value : Nat) (seed : Bool) (s : State) : State :=
  actBacklight (fun b =>
    let b := { b with ambient := some value }
    if s.settings.backlight.scalars.mode = .auto then { b with target := computeTarget seed s.settings.backlight b }
    else b) s

/-- A panel temperature delivered by the scanner (R128). -/
def takeTemperature (t : Option Int) (s : State) : State := actBacklight (fun b => { b with temperature := t }) s

/-- A power condition handed by the power path controller (R128). -/
def takeCondition (c : Condition) (s : State) : State := actBacklight (fun b => { b with condition := c }) s

/-- A change of the lid handed by the ambient front end (R132). -/
def takeLid (closed : Bool) (s : State) : State :=
  actBacklight (fun b =>
    if closed then { b with lidClosed := true, level := 0, target := none, ambient := none }
    else
      { b with
        lidClosed := false
        target := if s.settings.backlight.scalars.mode = BacklightMode.manual then some s.settings.backlight.scalars.manual
          else b.target }) s

/-- The limited target (R135). -/
def limitedTarget (b : Backlight) (t : Nat) : Nat := min t b.effectiveCap

/-- One step of the ramp: the level moves toward the limited target by at most S (R137). -/
def rampLevel (slew level limited : Nat) : Nat :=
  if level < limited then min (level + slew) limited
  else if limited < level then max (level - slew) limited
  else level

/-- The ramp at an expiry of the tick (R137). -/
def rampStep (c : BacklightSettings) (b : Backlight) : Backlight :=
  match b.target with
  | some t =>
    if !b.lidClosed && decide (c.scalars.mode ≠ .off) then
      { b with level := rampLevel c.scalars.slew b.level (limitedTarget b t) }
    else b
  | none => b

/-- The target after a change of mode (R131), while the lid is open. -/
def targetOnMode (c : BacklightSettings) (b : Backlight) : Option Nat :=
  match c.scalars.mode with
  | .auto => b.ambient.map (curveTarget c)
  | .manual => some c.scalars.manual
  | .off => none

/-- A change of mode (R131, R132): at once, but while the lid is closed the target waits for it to open
(DEDUCED, log 23). -/
def applyMode (c : BacklightSettings) (b : Backlight) : Backlight :=
  { b with
    target := if b.lidClosed then none else targetOnMode c b
    level := if c.scalars.mode = .off then 0 else b.level }

/-- The effect of a taken SET_BACKLIGHT on the target and the level (R140), the new settings being stored. -/
def applyScalars (old : BacklightScalars) (c : BacklightSettings) (b : Backlight) : Backlight :=
  if old.mode ≠ c.scalars.mode then applyMode c b
  else if b.lidClosed then b
  else match c.scalars.mode with
  | .manual => if old.manual ≠ c.scalars.manual then { b with target := some c.scalars.manual } else b
  | .auto =>
    if old.bias ≠ c.scalars.bias ∨ old.hysteresis ≠ c.scalars.hysteresis then
      { b with target := computeTarget false c b }
    else b
  | .off => b

/-- The controller's start values (R145), the lid and the power condition being those its neighbours hold
(the binding: DEDUCED, log 13). -/
def startBacklight (s : State) : State :=
  let c := s.settings.backlight
  let b := { Backlight.start with
    lidClosed := s.ambient.lidClosed
    condition := s.power.condition
    target := if c.scalars.mode = BacklightMode.manual ∧ s.ambient.lidClosed = false then some c.scalars.manual else none
    rampSince := s.timeBase }
  s.setBacklight (b.settled c)

/-! ### Commands -/

/-- RAMP_TICK (R137): the tick expires 10 ms after the one before (DEDUCED, log 30). -/
def execRampTick (s : State) : Host.Outcome State Fault Refusal :=
  inRun (fun s =>
    if timeReached s s.backlight.rampSince 10 then
      actBacklight (fun b => { rampStep s.settings.backlight b with rampSince := b.rampSince + 10 }) s
    else s) s

/-- The scalars a SET_BACKLIGHT carries, clamped (R139). -/
def backlightScalarsOf (p : List Byte) (mode : BacklightMode) : BacklightScalars :=
  let dmin := clampNat (u16 p 7) 1 4094
  { mode := mode
    manual := clampNat (u16 p 1) 0 1000
    bias := clampInt (s16 p 3) (-300) 300
    hysteresis := clampNat (u8 p 5) 0 100
    slew := clampNat (u8 p 6) 1 50
    dmin := dmin
    dmax := clampNat (u16 p 9) (dmin + 1) 4095
    ts := clampInt (s16 p 11) (-400) 1500
    te := clampInt (s16 p 13) (-400) 1500
    cmin := clampNat (u16 p 15) 0 1000
    unknownCap := clampNat (u16 p 17) 0 1000 }

/-- Whether SET_BACKLIGHT moved a scalar to its bound (R9). -/
def backlightMoved (p : List Byte) (c : BacklightScalars) : Bool :=
  decide (c.manual ≠ u16 p 1) || decide (c.bias ≠ s16 p 3) || decide (c.hysteresis ≠ u8 p 5)
    || decide (c.slew ≠ u8 p 6) || decide (c.dmin ≠ u16 p 7) || decide (c.dmax ≠ u16 p 9)
    || decide (c.ts ≠ s16 p 11) || decide (c.te ≠ s16 p 13) || decide (c.cmin ≠ u16 p 15)
    || decide (c.unknownCap ≠ u16 p 17)

/-- The stored scalars a SET_BACKLIGHT reply echoes (R139). -/
def backlightEcho (c : BacklightScalars) : List Byte :=
  le16 c.manual ++ sle16 c.bias ++ le8 c.hysteresis ++ le8 c.slew ++ le16 c.dmin ++ le16 c.dmax ++ sle16 c.ts
    ++ sle16 c.te ++ le16 c.cmin ++ le16 c.unknownCap

/-- Stores the backlight settings. -/
def setBacklightSettings (c : BacklightSettings) (s : State) : State :=
  s.setSettings { s.settings with backlight := c }

/-- The effect of a taken SET_BACKLIGHT (R140). -/
def takeBacklightScalars (c : BacklightScalars) (s : State) : State :=
  let new := { s.settings.backlight with scalars := c }
  actBacklight (applyScalars s.settings.backlight.scalars new) (setBacklightSettings new s)

/-- The service of SET_BACKLIGHT (R139). -/
def serveSetBacklight (p : List Byte) (s : State) : Served :=
  withLength p 19 s fun _ =>
    match backlightMode? (u8 p 0) with
    | none => refuse .badValue s
    | some mode =>
      let c := backlightScalarsOf p mode
      if c.te ≤ c.ts then refuse .badValue s
      else answer (clampStatus (backlightMoved p c)) (backlightEcho c) (takeBacklightScalars c s)

/-- The 4-byte value of a point of SET_CURVE at place `i` (R141). -/
def curveValue (p : List Byte) (i : Nat) : Nat := u32 p (1 + 4 * i)

/-- A point as read and clamped (R141). -/
def curvePointOf (v : Nat) : CurvePoint :=
  { lux := clampNat (v / 1024) 0 131040, level := clampNat (v - v / 1024 * 1024) 0 1000 }

/-- Whether reading a point clamped its lux or its level (R141). -/
def curvePointMoved (v : Nat) : Bool := outside (v / 1024) 0 131040 || outside (v - v / 1024 * 1024) 0 1000

/-- Whether the lux values rise strictly (R125). -/
def luxRise : List CurvePoint → Bool
  | p :: q :: rest => decide (p.lux < q.lux) && luxRise (q :: rest)
  | _ => true

/-- The effect of a taken SET_CURVE (R141): the curve is replaced whole, and in AUTO with the lid open and a working
ambient the target is set directly. -/
def takeCurve (curve : List CurvePoint) (s : State) : State :=
  let new := { s.settings.backlight with curve := curve }
  actBacklight (fun b =>
    if new.scalars.mode = .auto ∧ b.lidClosed = false then { b with target := computeTarget true new b } else b)
    (setBacklightSettings new s)

/-- The service of SET_CURVE (R141). -/
def serveSetCurve (p : List Byte) (s : State) : Served :=
  let count := u8 p 0
  withLength p (1 + 4 * count) s fun _ =>
    let values := (List.range count).map (curveValue p)
    let curve := values.map curvePointOf
    if count < 2 ∨ 12 < count ∨ luxRise curve = false then refuse .badValue s
    else answer (clampStatus (values.any curvePointMoved)) [] (takeCurve curve s)

/-- A point as GET_CURVE sends it (R142). -/
def curvePointBytes (q : CurvePoint) : List Byte := le32 (q.lux * 1024 + q.level)

/-- The service of GET_CURVE (R142). -/
def serveGetCurve (p : List Byte) (s : State) : Served :=
  withLength p 0 s fun _ =>
    let curve := s.settings.backlight.curve
    answer .ok (le8 curve.length ++ curve.flatMap curvePointBytes) s

/-- The caps a SET_CAPS carries, clamped (R143). -/
def capsOf (p : List Byte) : Caps :=
  { full := clampNat (u16 p 0) 0 1000
    single := clampNat (u16 p 2) 0 1000
    low := clampNat (u16 p 4) 0 1000
    transfer := clampNat (u16 p 6) 0 1000
    noSupply := clampNat (u16 p 8) 0 1000 }

/-- Whether SET_CAPS moved a cap to its bound. -/
def capsMoved (p : List Byte) : Bool := [0, 2, 4, 6, 8].any fun i => outside (u16 p i) 0 1000

/-- The effect of a taken SET_CAPS (R143). -/
def takeCaps (caps : Caps) (s : State) : State :=
  actBacklight id (setBacklightSettings { s.settings.backlight with caps := caps } s)

/-- The service of SET_CAPS (R143). -/
def serveSetCaps (p : List Byte) (s : State) : Served :=
  withLength p 10 s fun _ =>
    let c := capsOf p
    answer (clampStatus (capsMoved p)) (le16 c.full ++ le16 c.single ++ le16 c.low ++ le16 c.transfer ++ le16 c.noSupply)
      (takeCaps c s)

/-- The service of GET_BACKLIGHT (R144). -/
def serveGetBacklight (p : List Byte) (s : State) : Served :=
  withLength p 0 s fun _ => answer .ok (backlightBody s) (takeFree s)

/-- SET_CURVE (R141). -/
def execSetCurve (tag : Byte) (payload : List Byte) (s : State) : Host.Outcome State Fault Refusal :=
  request 0x31 serveSetCurve tag payload s

/-- GET_CURVE (R142). -/
def execGetCurve (tag : Byte) (payload : List Byte) (s : State) : Host.Outcome State Fault Refusal :=
  request 0x32 serveGetCurve tag payload s

/-- SET_BACKLIGHT (R139, R140). -/
def execSetBacklight (tag : Byte) (payload : List Byte) (s : State) : Host.Outcome State Fault Refusal :=
  request 0x33 serveSetBacklight tag payload s

/-- GET_BACKLIGHT (R144). -/
def execGetBacklight (tag : Byte) (payload : List Byte) (s : State) : Host.Outcome State Fault Refusal :=
  request 0x34 serveGetBacklight tag payload s

/-- SET_CAPS (R143). -/
def execSetCaps (tag : Byte) (payload : List Byte) (s : State) : Host.Outcome State Fault Refusal :=
  request 0x35 serveSetCaps tag payload s

end Sys2Proof.Machine
end

