-- ==== Sys2Proof/Machine/Locks.lean ====
section
/-! DEFINITION. The lock controller (chapter 5): changes of a bay's reason set, the sense report, the lock states, and
its commands. -/

namespace Sys2Proof.Machine

/-- Replaces a bay's lock. -/
def setLock (bay : Bay) (l : BayLock) (s : State) : State := s.setLocks (s.locks.set bay l)

/-- The state a move ends in at its start (R101, R102): ENGAGING when the set is non-empty and UNLOCKING when it is empty,
with a fresh window, or LOCKED or FREE at once when the sense report already stands there. -/
def lockMove (r : Reasons) (sense : Bool) (now : Moment) : LockState :=
  if r.isEmpty then (if sense then .unlocking now else .free) else (if sense then .locked else .engaging now)

/-- Whether a change of the set from `old` to `new` starts a move (R101): a fill and an empty always, a shift in JAMMED. -/
def startsMove (st : LockState) (old new : Reasons) : Bool :=
  old.isEmpty || new.isEmpty || (match st with | .jammed _ => true | _ => false)

/-- The lock after a change of its reason set (R99, R101). -/
def lockWithReasons (l : BayLock) (new : Reasons) (now : Moment) : BayLock :=
  { l with
    reasons := new
    drive := !new.isEmpty
    state := if startsMove l.state l.reasons new then lockMove new l.sense now else l.state }

/-- Posts what a change of a bay's lock state posts (R107). -/
def postLockChange (old new : LockState) (s : State) : State :=
  postIf (decide (old ≠ new) && (match new with | .jammed _ => true | _ => false)) .lockJammed
    (postIf (decide (old ≠ new)) .lockState s)

/-- Puts a bay's lock in place of the one held and posts its change of state (R107). -/
def updateLock (bay : Bay) (l : BayLock) (s : State) : State :=
  postLockChange (s.locks.get bay).state l.state (setLock bay l s)

/-- Takes one change of a bay's reason set (R95); a set equal to the one held is no change. -/
def changeReasons (bay : Bay) (new : Reasons) (s : State) : State :=
  if (s.locks.get bay).reasons = new then s
  else updateLock bay (lockWithReasons (s.locks.get bay) new s.timeBase) s

/-- The lock state after the sense report has become `sense` (R102, R103, R104). -/
def lockOnSense (st : LockState) (sense : Bool) : LockState :=
  match st, sense with
  | .engaging _, true => .locked
  | .unlocking _, false => .free
  | .locked, false => .jammed .slipped
  | st, _ => st

/-- The lock state when its window reaches 50 ms (R102). -/
def lockOnWindow : LockState → LockState
  | .engaging _ => .jammed .engage
  | .unlocking _ => .jammed .release
  | st => st

/-- Whether a bay's sense window has reached 50 ms (R102). -/
def windowReached (bay : Bay) (s : State) : Bool :=
  match (s.locks.get bay).state with
  | .engaging since | .unlocking since => timeReached s since 50
  | _ => false

/-- A level of LKS_x against the sense report (R100): a change pends, or is cancelled. -/
def senseLevel (bay : Bay) (level : Bool) (s : State) : State :=
  let l := s.locks.get bay
  setLock bay { l with pendingSense :=
    if level = l.sense then none else some (l.pendingSense.getD s.timeBase) } s

/-- The sense report changes (R100, R102). -/
def senseChange (bay : Bay) (s : State) : State :=
  let l := s.locks.get bay
  updateLock bay { l with sense := !l.sense, pendingSense := none, state := lockOnSense l.state (!l.sense) } s

/-- RETRY_LOCK's effect on one bay (R105). -/
def retryBay (bay : Bay) (s : State) : State :=
  let l := s.locks.get bay
  match l.state with
  | .jammed _ => updateLock bay { l with state := lockMove l.reasons l.sense s.timeBase } s
  | _ => s

/-- Applies `f` to each selected bay, bay A first. -/
def onBays (m : PerBay Bool) (f : Bay → State → State) (s : State) : State :=
  allBays.foldl (fun s bay => if m.get bay then f bay s else s) s

/-- Sets the host lock request of a bay, adding or removing HOST (R98). -/
def setHostLock (on : Bool) (bay : Bay) (s : State) : State :=
  changeReasons bay { (s.locks.get bay).reasons with host := on } s

/-! ### Commands -/

/-- LKS_PIN_CHANGE (R100). -/
def execLksPinChange (bay : Bay) (asserted : Bool) (s : State) : Host.Outcome State Fault Refusal :=
  onPin { s.pins with lks := s.pins.lks.set bay asserted } (senseLevel bay asserted) s

/-- SENSE_DEBOUNCE_EXPIRY (R100, R102, R103): the pending change of the sense report has held for 2 ms. -/
def execSenseDebounceExpiry (bay : Bay) (s : State) : Host.Outcome State Fault Refusal :=
  inRun (fun s => if reachedSince s (s.locks.get bay).pendingSense 2 then senseChange bay s else s) s

/-- LOCK_WINDOW_EXPIRY (R102). -/
def execLockWindowExpiry (bay : Bay) (s : State) : Host.Outcome State Fault Refusal :=
  inRun (fun s =>
    if windowReached bay s then
      updateLock bay { s.locks.get bay with state := lockOnWindow (s.locks.get bay).state } s
    else s) s

/-- The service of SET_HOST_LOCK (R98). -/
def serveSetHostLock (p : List Byte) (s : State) : Served :=
  withLength p 2 s fun _ =>
    match bayMask? (byteAt p 0), isBool p 1 with
    | some m, true => answer .ok [] (onBays m (setHostLock (flagAt p 1)) s)
    | _, _ => refuse .badValue s

/-- The service of GET_LOCKS (R106). -/
def serveGetLocks (p : List Byte) (s : State) : Served :=
  withLength p 0 s fun _ => answer .ok (locksBody s) s

/-- The service of RETRY_LOCK (R105). -/
def serveRetryLock (p : List Byte) (s : State) : Served :=
  withLength p 1 s fun _ =>
    match bayMask? (byteAt p 0) with
    | some m => answer .ok [] (onBays m retryBay s)
    | none => refuse .badValue s

/-- SET_HOST_LOCK (R98). -/
def execSetHostLock (tag : Byte) (payload : List Byte) (s : State) : Host.Outcome State Fault Refusal :=
  request 0x28 serveSetHostLock tag payload s

/-- GET_LOCKS (R106). -/
def execGetLocks (tag : Byte) (payload : List Byte) (s : State) : Host.Outcome State Fault Refusal :=
  request 0x29 serveGetLocks tag payload s

/-- RETRY_LOCK (R105). -/
def execRetryLock (tag : Byte) (payload : List Byte) (s : State) : Host.Outcome State Fault Refusal :=
  request 0x2A serveRetryLock tag payload s

end Sys2Proof.Machine
end

