-- ==== Sys2Proof/Machine/PowerPath.lean ====
section
/-! DEFINITION. The power path controller (chapters 3 and 4): moves between source states, presence, qualification and
the window checks, faults, closings, latches, evaluation, joins, leaves and transfers, and the power condition. -/

namespace Sys2Proof.Machine

/-! ### The source record -/

/-- The record of source `x`. -/
def State.src (s : State) (x : Source) : SourceRun := s.power.src.get x

/-- Replaces the record of source `x`. -/
def setSrc (x : Source) (r : SourceRun) (s : State) : State :=
  s.setPower { s.power with src := s.power.src.set x r }

/-- The settings of source `x`. -/
def State.srcSettings (s : State) (x : Source) : SourceSettings := s.settings.power.sources.get x

/-- Whether the scanner is DEGRADED (R45). -/
def State.degraded (s : State) : Bool := s.scanner.ref == .degraded

/-- Applies `f` to each member of a set of sources, in the order DC, A, B: no rule orders what one event does to several
sources, and the order shows where their notice entries are created (DESIGN CHOICE, log 43). -/
def onSources (m : SourceSet) (f : Source → State → State) (s : State) : State :=
  m.members.foldl (fun s x => f x s) s

/-- A qualify timer started from zero, paused while the scanner is DEGRADED (R55, R57). -/
def freshQualify (x : Source) (s : State) : QualifyTimer :=
  let length := (s.srcSettings x).qualifyTime
  if s.degraded then .paused 0 length else .running s.timeBase length

/-- Where a move goes after the two standing checks of R52: an open latch turns QUALIFY and STANDBY into
RELEASING/OPEN, and a fault condition that holds turns any of the four states into FAULT. -/
def resolveMove (x : Source) (dest : SourceState) (s : State) : SourceState :=
  if dest.takesFaults then
    match faultCondition (s.srcSettings x) s.pins x with
    | some k => .fault k
    | none =>
      if (s.src x).latchOpen && (dest == .qualify || dest == .standby) then .releasingOpen else dest
  else dest

/-- Whether two states differ in state or substate, which is what STATE reports (R68). -/
def stateDiffers (old new : SourceState) : Bool :=
  decide (old.code ≠ new.code) || decide (old.subcode ≠ new.subcode)

/-- The GOOD watch after a move (R64): it begins with a closing, goes on between ACTIVE/CLOSING and RELEASING/HELD, and
ends with any other move. -/
def watchAfter (old new : SourceState) (watch : Option Moment) (now : Moment) : Option Moment :=
  match new with
  | .activeClosing => if old = .releasingHeld then watch else some now
  | .releasingHeld => watch
  | _ => none

/-- The record after a move into `st`: the switch follows the state (R51), the timers stop or start afresh (R55 to
R59), the current count and drained take their values (R55, R61, R67), and the GOOD watch follows R64. -/
def recordAfter (x : Source) (st : SourceState) (s : State) : SourceRun :=
  let r := s.src x
  { r with
    state := st
    switch := st.closed
    qualify := if st = .qualify then freshQualify x s else .stopped
    violation := .stopped
    currentCount := if st = .absent ∨ (st.takesFaults ∧ st.code ≠ r.state.code) then 0 else r.currentCount
    drained := if st = .absent ∨ st = .disabled then false else r.drained
    goodWatch := watchAfter r.state st r.goodWatch s.timeBase }

/-- Makes a move and posts its causes (R68): STATE when the state or substate changes, FAULT on entering FAULT, DRAINED
when the flag is cleared (DEDUCED, log 16). -/
def enterState (x : Source) (st : SourceState) (s : State) : State :=
  let r := s.src x
  postIf (stateDiffers r.state st) (.sourceState x)
    (postIf (decide (st.code = 6)) (.sourceFault x)
      (postIf (r.drained && !(recordAfter x st s).drained) (.sourceDrained x) (setSrc x (recordAfter x st s) s)))

/-- A move checked by R52. -/
def moveTo (x : Source) (dest : SourceState) (s : State) : State := enterState x (resolveMove x dest s) s

/-- A fault taken (R60): the source moves to FAULT with the kind. -/
def takeFault (x : Source) (k : FaultKind) (s : State) : State := enterState x (.fault k) s

/-- A closing (R64): the source moves to ACTIVE/CLOSING, subject to R52, and at once to ACTIVE/ON if GOOD_x is asserted. -/
def closeSource (x : Source) (s : State) : State :=
  let s := moveTo x .activeClosing s
  if (s.src x).state = .activeClosing && s.pins.good.get x then moveTo x .activeOn s else s

/-- The opening of a switch by a leave or at the end of a transfer (R80, R85): STANDBY from ACTIVE, RELEASING/OPEN from
RELEASING/HELD. -/
def openSource (x : Source) (s : State) : State :=
  match (s.src x).state with
  | .activeClosing | .activeOn => moveTo x .standby s
  | .releasingHeld => moveTo x .releasingOpen s
  | _ => s

/-! ### The preferred set and candidates -/

/-- The bays that are not drained in the policy's order (R74, R83): DRAIN_LOWER and SHARE take the lower last voltage
first, with ties going to A. -/
def policyOrder (p : Power) : Policy → List Source
  | .drainAFirst => [.a, .b]
  | .drainBFirst => [.b, .a]
  | .drainLower | .share => if p.src.b.lastVoltage < p.src.a.lastVoltage then [.b, .a] else [.a, .b]

/-- The drained bays in order: the higher last voltage first, with ties going to A (R74, R83). -/
def drainedOrder (p : Power) : List Source :=
  if p.src.a.lastVoltage < p.src.b.lastVoltage then [.b, .a] else [.a, .b]

/-- The sources in the order of R83. -/
def choiceOrder (p : Power) (policy : Policy) : List Source :=
  .dc :: (policyOrder p policy).filter (fun x => !(p.src.get x).drained)
    ++ (drainedOrder p).filter (fun x => (p.src.get x).drained)

/-- The first member of a set in the order of R83. -/
def firstChoice (p : Power) (policy : Policy) (m : SourceSet) : Option Source := (choiceOrder p policy).find? m.get

/-- Whether source `x` is the joining bay (R79). -/
def Power.isJoining (p : Power) (x : Source) : Bool := p.joining.any fun bay => baySource bay == x

/-- Whether a source counts as eligible when the preferred set is computed (R74). -/
def Power.counts (p : Power) (x : Source) : Bool := p.eligible x || p.isJoining x

/-- Whether a bay is kept by the sticky choice: it is ACTIVE/ON or the joining bay, and is not drained (R74). -/
def Power.kept (p : Power) (x : Source) : Bool :=
  ((p.src.get x).state == .activeOn || p.isJoining x) && !(p.src.get x).drained

/-- The one bay a DRAIN policy prefers (R74) (DEDUCED, log 24). -/
def drainChoice (p : Power) (policy : Policy) : Option Source :=
  if p.kept .a && !p.kept .b then some .a
  else if p.kept .b && !p.kept .a then some .b
  else firstChoice p policy ⟨false, p.counts .a, p.counts .b⟩

/-- The preferred set (R74). -/
def Power.preferred (p : Power) (policy : Policy) : SourceSet :=
  if p.counts .dc then oneSource .dc
  else match policy with
  | .share => ⟨false, p.counts .a, p.counts .b⟩
  | _ => match drainChoice p policy with | some x => oneSource x | none => noSources

/-- The candidates of a transfer: in STANDBY, not outgoing, not tried (R83). -/
def candidates (p : Power) (outgoing tried : SourceSet) : SourceSet :=
  sourceSetOf fun x => (p.src.get x).state == .standby && !outgoing.get x && !tried.get x

/-! ### Evaluation, joins, leaves and transfers -/

/-- What the controller does next within an act: an evaluation, which knows whether the calling event emptied the
feeding set (R91) and whether it opened a latch on a feeding bay (R90), or the rules of the transfer in flight. -/
inductive PowerTask where
  | evaluate (emptied held : Bool)
  | follow
deriving DecidableEq, Repr

/-- The joining bay ceases to be it when its closing ends (R79). -/
def endJoin (s : State) : State :=
  match s.power.joining with
  | some bay =>
    if (s.src (baySource bay)).state = .activeClosing then s else s.setPower { s.power with joining := none }
  | none => s

/-- Sets the deferred flag (R78). -/
def setDeferred (b : Bool) (s : State) : State := s.setPower { s.power with deferred := b }

/-- Whether any source of the feeding set is in RELEASING/HELD. -/
def Power.anyHeld (p : Power) : Bool := allSources.any fun x => (p.src.get x).state == .releasingHeld

/-- Whether the difference between P and F is a join (R77): under SHARE, DC in neither set, F not empty and none held,
and P is F with one bay added. -/
def isJoin (p : Power) (policy : Policy) (pref feed : SourceSet) : Bool :=
  policy == .share && !pref.dc && !feed.dc && !feed.isEmpty && !p.anyHeld && feed.within pref
    && (pref.minus feed).size == 1

/-- The kind of a transfer (R77). -/
def transferKind (p : Power) (feed : SourceSet) : TransferKind :=
  if feed.isEmpty then .breakLoad else if p.anyHeld then .release else .planned

/-- Puts the transfer record in place (R81). -/
def setTransfer (t : Transfer) (s : State) : State := s.setPower { s.power with transfer := some t }

/-- Starts a transfer to its first candidate (R82). -/
def startTransfer (kind : TransferKind) (outgoing : SourceSet) (x : Source) (s : State) : State :=
  let t : Transfer :=
    { kind := kind, outgoing := outgoing, incoming := x, step := .closingIncoming, startMs := s.timeBase,
      tried := oneSource x }
  closeSource x (setTransfer t s)

/-- Starts a join of the bay `x`, no join being in progress (R79). -/
def startJoin (x : Source) (s : State) : State :=
  closeSource x (s.setPower { s.power with joining := sourceBay x })

/-- One evaluation while no transfer is in flight (R77, R78), with what follows it in the same act. A failed join that has
emptied the feeding set is answered as R91 says, though R79 posts no TRANSFER cause for a join (DEDUCED, log 44). A join
called for while another bay's join is closing waits for the evaluation that its end calls, since there is one joining bay
(R72, R79; DESIGN CHOICE, log 48). -/
def evaluateStep (emptied held : Bool) (s : State) : State × Option PowerTask :=
  let s := setDeferred false (endJoin s)
  let policy := s.settings.power.policy
  let pref := s.power.preferred policy
  let feed := s.power.feeding
  let guarded := s.drop.contactGuard
  if pref.isEmpty then
    (postIf (held && feed.size == 1) .releaseHeld (postIf emptied .noReserve s), none)
  else if pref = feed then (s, none)
  else if pref.within feed then (onSources (feed.minus pref) openSource s, some (.evaluate false false))
  else match firstChoice s.power policy (pref.minus feed) with
  | none => (s, none)
  | some x =>
    if isJoin s.power policy pref feed then
      if guarded then (setDeferred true s, none)
      else if s.power.joining.isSome then (s, none)
      else (startJoin x s, some (.evaluate false false))
    else
      let kind := transferKind s.power feed
      if guarded && kind == .planned && feed.size == 1 then (setDeferred true s, none)
      else (startTransfer kind (feed.minus pref) x s, some .follow)

/-- Whether a source of the outgoing list still has its switch closed. -/
def outgoingClosed (t : Transfer) (s : State) : Bool := t.outgoing.members.any fun x => (s.src x).state.closed

/-- Makes the transfer record absent. -/
def dropTransfer (s : State) : State := s.setPower { s.power with transfer := none }

/-- The end of a transfer whose incoming source carries the load (R85). -/
def transferDone (t : Transfer) (s : State) : State × Option PowerTask :=
  (post .transferDone (dropTransfer (onSources t.outgoing openSource s)), some (.evaluate false false))

/-- The end of a transfer whose incoming bay is held (R87). -/
def transferHeld (s : State) : State × Option PowerTask :=
  (post .releaseHeld (dropTransfer s), some (.evaluate false false))

/-- The next candidate after the incoming source has failed or left (R84, R87), or the end of R86 (DEDUCED, log 29). The
evaluation at that end opens a bay that is held beside another closed switch, though R86 says that it stays held (DEDUCED,
log 49). -/
def nextCandidate (t : Transfer) (s : State) : State × Option PowerTask :=
  match firstChoice s.power s.settings.power.policy (candidates s.power t.outgoing t.tried) with
  | some x =>
    (closeSource x (setTransfer { t with incoming := x, step := .closingIncoming, tried := t.tried.set x true } s),
      some .follow)
  | none =>
    (post (if s.power.feeding.isEmpty then .noReserve else .transferFailed) (dropTransfer s), some (.evaluate false false))

/-- The incoming source is ACTIVE/ON (R84, R88): in CLOSING_INCOMING the overlap begins if an outgoing switch is still
closed; where none is, the transfer ends. The overlap time is the one in force then, also where DEFAULTS has changed it
since the transfer started (DESIGN CHOICE, log 38). -/
def incomingOn (t : Transfer) (s : State) : State × Option PowerTask :=
  if outgoingClosed t s then
    match t.step with
    | .overlap _ => (s, none)
    | .closingIncoming =>
      (setTransfer { t with step := .overlap { since := s.timeBase, length := s.settings.power.overlap } } s, none)
  else transferDone t s

/-- The incoming bay is in RELEASING/HELD (R87): it is opened at once while an outgoing switch is closed; else it is not
opened, and with its GOOD watch ended the transfer ends held. -/
def incomingHeld (t : Transfer) (s : State) : State × Option PowerTask :=
  if outgoingClosed t s then nextCandidate t (moveTo t.incoming .releasingOpen s)
  else if (s.src t.incoming).goodWatch.isSome then (s, none)
  else transferHeld s

/-- The rules of the transfer in flight, by where its incoming source stands (R84 to R88). -/
def followStep (s : State) : State × Option PowerTask :=
  match s.power.transfer with
  | none => (s, none)
  | some t =>
    match (s.src t.incoming).state with
    | .activeOn => incomingOn t s
    | .activeClosing => (s, none)
    | .releasingHeld => incomingHeld t s
    | _ => nextCandidate t s

/-- One task. -/
def powerStep : PowerTask → State → State × Option PowerTask
  | .evaluate emptied held, s => evaluateStep emptied held s
  | .follow, s => followStep s

/-- Runs the tasks of an act. A task that calls another has opened a switch, closed a source in STANDBY, or ended a
transfer, so the three sources allow only a few; the bound is far above them (log 9). -/
def runPower : Nat → PowerTask → State → State
  | 0, _, s => s
  | n + 1, task, s =>
    match powerStep task s with
    | (s, none) => s
    | (s, some next) => runPower n next s

/-- The bound on the tasks of one act. -/
def powerFuel : Nat := 32

/-- The reason set of a bay with SOLE and TRANSFER as the power path now holds them (R92). -/
def powerReasons (bay : Bay) (s : State) : Reasons :=
  { (s.locks.get bay).reasons with
    sole := s.power.soleHolds s.settings.power.lockSole bay
    transfer := s.power.transferHolds bay }

/-- Hands a changed power condition on and posts it (R93). -/
def settleCondition (s : State) : State :=
  let c := s.power.conditionNow
  if c = s.power.condition then s
  else takeCondition c (post .conditionChanged (s.setPower { s.power with condition := c }))

/-- Closes an act of the power path (R92, R93): each bay's SOLE and TRANSFER are handed over as one change, and the
power condition is recomputed (DEDUCED, log 8). -/
def settlePower (s : State) : State :=
  let s := endJoin s
  let s := changeReasons .a (powerReasons .a s) s
  let s := changeReasons .b (powerReasons .b s) s
  settleCondition s

/-- Whether what changed between two states calls an evaluation (R76). -/
def evaluationCalled (old new : Power) : Bool :=
  allSources.any fun x =>
    callsEvaluation (old.src.get x).state (new.src.get x).state
      || decide ((old.src.get x).drained ≠ (new.src.get x).drained)

/-- Whether a bay has entered RELEASING/HELD. -/
def newlyHeld (old new : Power) : Bool :=
  allSources.any fun x => (old.src.get x).state != .releasingHeld && (new.src.get x).state == .releasingHeld

/-- One act of the power path: the event's own moves, then the rules of the transfer in flight, or the evaluation the
event calls (`forced` for the policy and the contact guard, R76), then the settling (DEDUCED, log 8). -/
def actPower (forced : Bool) (f : State → State) (s : State) : State :=
  let t := f s
  settlePower
    (if t.power.transfer.isSome then runPower powerFuel .follow t
     else if forced || evaluationCalled s.power t.power then
       runPower powerFuel
         (.evaluate (!s.power.feeding.isEmpty && t.power.feeding.isEmpty) (newlyHeld s.power t.power)) t
     else t)

/-! ### Presence -/

/-- The presence indication of a source (R53). -/
def indicationOf (x : Source) (s : State) : Bool :=
  indication (s.srcSettings x) (s.pins.pres.get x) (s.src x).lastCounted

/-- The presence hold time in force (R54). -/
def holdTime (x : Source) (s : State) : Nat := presenceHold s.settings.power s.drop.contactGuard x

/-- Marks the open record with GUARD_USED; without one the report is ignored (R174). -/
def absorbedReport (s : State) : State :=
  match s.drop.record with
  | some r => s.setDrop { s.drop with record := some { r with guardUsed := true } }
  | none => s

/-- Whether a pending change that is cancelled now is an absorbed dropout of a bay (R56). -/
def isAbsorbed (x : Source) (s : State) : Bool :=
  (sourceBay x).isSome && (s.src x).presence && reachedSince s (s.src x).pendingPresence (presenceDebounce x)
    && !reachedSince s (s.src x).pendingPresence (holdTime x s)

/-- Forms the presence indication (R54): a change pends, or is cancelled, with the report of R56. It is not evaluated
in DISABLED (R53). -/
def formPresence (x : Source) (s : State) : State :=
  let r := s.src x
  if r.state = .disabled then s
  else if indicationOf x s = r.presence then
    let t := setSrc x { r with pendingPresence := none } s
    if isAbsorbed x s then absorbedReport t else t
  else setSrc x { r with pendingPresence := some (r.pendingPresence.getD s.timeBase) } s

/-- The taken presence becomes no (R55). -/
def losePresence (x : Source) (s : State) : State :=
  post (.sourceDetach x)
    (enterState x .absent (setSrc x { s.src x with presence := false, pendingPresence := none, detachSeen := true } s))

/-- The taken presence becomes yes (R55): a source in ABSENT sets attach_seen and moves to QUALIFY, subject to R52. -/
def gainPresence (x : Source) (s : State) : State :=
  let r := { s.src x with presence := true, pendingPresence := none }
  if r.state = .absent then
    moveTo x .qualify (post (.sourceAttach x) (setSrc x { r with attachSeen := true } s))
  else setSrc x r s

/-- The taken presence changes (R54, R55). -/
def takePresence (x : Source) (s : State) : State :=
  if (s.src x).presence then losePresence x s else gainPresence x s

/-! ### Readings -/

/-- The violation timer after a reading in STANDBY or ACTIVE/ON (R58). -/
def violationAfter (v : ViolationTimer) (side : Option Side) (now : Moment) : ViolationTimer :=
  match side, v with
  | none, _ => .stopped
  | some side, .running since _ => .running since side
  | some side, .stopped => .running now side

/-- The window check of a reading (R57, R58, R59): in QUALIFY and ACTIVE/ON a flagged reading does not count, in STANDBY
it does. -/
def checkWindow (x : Source) (mv : Nat) (flagged : Bool) (s : State) : State :=
  let r := s.src x
  let side := outOfWindow (s.srcSettings x) mv
  match r.state with
  | .qualify => if !flagged && side.isSome then setSrc x { r with qualify := freshQualify x s } s else s
  | .standby => setSrc x { r with violation := violationAfter r.violation side s.timeBase } s
  | .activeOn => if flagged then s else setSrc x { r with violation := violationAfter r.violation side s.timeBase } s
  | _ => s

/-- The drained flag after a counting reading of a bay (R67). -/
def drainedAfter (low : Nat) (r : SourceRun) (mv : Nat) : Bool :=
  if mv < low ∧ r.state.closed then true else if low + 400 < mv then false else r.drained

/-- The drained flag follows a counting reading, and its change is posted (R67). -/
def checkDrained (x : Source) (mv : Nat) (flagged : Bool) (s : State) : State :=
  match sourceBay x with
  | none => s
  | some bay =>
    let r := s.src x
    let d := drainedAfter (s.settings.power.bays.get bay).lowThreshold r mv
    if flagged || d == r.drained then s else post (.sourceDrained x) (setSrc x { r with drained := d } s)

/-- Sets the last voltage; a reading without the flag also counts for presence (R53, R67). -/
def noteVoltage (x : Source) (mv : Nat) (flagged : Bool) (s : State) : State :=
  let r := s.src x
  if flagged then setSrc x { r with lastVoltage := mv } s
  else formPresence x (setSrc x { r with lastVoltage := mv, lastCounted := some mv } s)

/-- A delivery of a source's voltage slot (R67). -/
def voltageReading (x : Source) (mv : Nat) (flagged : Bool) (s : State) : State :=
  actPower false (fun s => checkDrained x mv flagged (checkWindow x mv flagged (noteVoltage x mv flagged s))) s

/-- The overcurrent check of a counting reading (R61). -/
def checkCurrent (bay : Bay) (ma : Nat) (s : State) : State :=
  let x := baySource bay
  let r := s.src x
  if (s.srcSettings x).faultSelect = .current && r.state.takesFaults then
    if (s.settings.power.bays.get bay).overcurrent < ma then
      if 2 ≤ r.currentCount + 1 then takeFault x .overcurrentScan (setSrc x { r with currentCount := 0 } s)
      else setSrc x { r with currentCount := r.currentCount + 1 } s
    else setSrc x { r with currentCount := 0 } s
  else s

/-- A delivery of a bay's current slot (R61, R67). -/
def currentReading (bay : Bay) (ma : Nat) (flagged : Bool) (s : State) : State :=
  actPower false (fun s =>
    let t := setSrc (baySource bay) { s.src (baySource bay) with lastCurrent := ma } s
    if flagged then t else checkCurrent bay ma t) s

/-- What the scanner's change to DEGRADED does to a source (R57, R59, R61): the qualify timer is paused, a violation
timer running in ACTIVE/ON stops, and the current count becomes 0. -/
def degradeSource (x : Source) (s : State) : State :=
  let r := s.src x
  setSrc x { r with
    qualify := match r.qualify with
      | .running since length => .paused (elapsed s since) length
      | q => q
    violation := if r.state = .activeOn then .stopped else r.violation
    currentCount := 0 } s

/-- What the scanner's change to NORMAL does to a source: the qualify timer goes on from its elapsed time (R57). -/
def restoreSource (x : Source) (s : State) : State :=
  let r := s.src x
  setSrc x { r with qualify := match r.qualify with
    | .paused e length => .running (s.timeBase - BitVec.ofNat 32 e) length
    | q => q } s

/-- The scanner tells the controller that it is DEGRADED (R45). -/
def powerDegraded (s : State) : State := onSources ⟨true, true, true⟩ degradeSource s

/-- The scanner tells the controller that it is NORMAL (R45, R48). -/
def powerRestored (s : State) : State := onSources ⟨true, true, true⟩ restoreSource s

/-! ### The contact guard -/

/-- The violation timer of a source in ACTIVE/ON has run for the violation time in force (R59). -/
def windowFaultReached (x : Source) (s : State) : Bool :=
  match (s.src x).state, (s.src x).violation with
  | .activeOn, .running since _ => timeReached s since (faultWindowTime s.settings.power s.drop.contactGuard x)
  | _, _ => false

/-- The fault kind of a window fault: after the side of the last out-of-window reading (R59). -/
def windowFaultKind (v : ViolationTimer) : FaultKind :=
  match v with
  | .running _ .high => .windowHigh
  | _ => .windowLow

/-- The window fault of a source whose time is reached (R59). -/
def takeWindowFault (x : Source) (s : State) : State :=
  if windowFaultReached x s then takeFault x (windowFaultKind (s.src x).violation) s else s

/-- A pending presence change whose hold time is reached is taken (R54). -/
def takeHeldPresence (x : Source) (s : State) : State :=
  if reachedSince s (s.src x).pendingPresence (holdTime x s) then takePresence x s else s

/-- What the guard's turning off does to a bay: a change or a fault whose plain time has passed is taken now (R54, R59).
Where both have passed, the presence change is taken first, so a bay that is lost posts no FAULT; R55 allows either order
(DESIGN CHOICE, log 39). -/
def unguardBay (x : Source) (s : State) : State := takeWindowFault x (takeHeldPresence x s)

/-- The contact guard turns off (R76, R78). The guard is off in `s` already. -/
def guardTurnedOff (s : State) : State :=
  actPower true (fun s => unguardBay .b (unguardBay .a s)) s

/-! ### Latches -/

/-- A level of LATCH_x against the latch state (R65): a change pends, or is cancelled. -/
def latchLevel (bay : Bay) (opened : Bool) (s : State) : State :=
  let r := s.src (baySource bay)
  setSrc (baySource bay) { r with pendingLatch :=
    if opened = r.latchOpen then none else some (r.pendingLatch.getD s.timeBase) } s

/-- Where a source goes when its latch becomes OPEN (R66). -/
def latchOpensTo : SourceState → Option SourceState
  | .qualify | .standby => some .releasingOpen
  | .activeClosing | .activeOn => some .releasingHeld
  | _ => none

/-- Where a source goes when its latch becomes CLOSED (R66). -/
def latchClosesTo (st : SourceState) (watching : Bool) : Option SourceState :=
  match st with
  | .releasingOpen => some .qualify
  | .releasingHeld => some (if watching then .activeClosing else .activeOn)
  | _ => none

/-- Makes a move if there is one. -/
def moveIf (x : Source) (dest : Option SourceState) (s : State) : State :=
  match dest with | some d => moveTo x d s | none => s

/-- The latch state changes (R65, R66); opening reads the lock state (R108). -/
def latchChange (bay : Bay) (s : State) : State :=
  let x := baySource bay
  let r := s.src x
  let t := setSrc x { r with latchOpen := !r.latchOpen, pendingLatch := none } s
  if r.latchOpen then moveIf x (latchClosesTo r.state r.goodWatch.isSome) t
  else moveIf x (latchOpensTo r.state) (postIf ((s.locks.get bay).state == .locked) (.latchWhileLocked x) t)

/-! ### Faults and closings -/

/-- Whether a source watches a fault line (R60). -/
def watchesLine (c : SourceSettings) (x : Source) : FaultLine → Bool
  | .own y => c.faultSelect == .pin && x == y
  | .shared => c.faultSelect == .shared

/-- The fault kind a line gives (R60). -/
def lineKind : FaultLine → FaultKind
  | .own _ => .overcurrentPin
  | .shared => .shared

/-- A line's assertion reaches a source that watches it and is in a state that takes faults (R60). -/
def faultFromLine (line : FaultLine) (x : Source) (s : State) : State :=
  if watchesLine (s.srcSettings x) x line && (s.src x).state.takesFaults then takeFault x (lineKind line) s else s

/-- The pins with a fault line at a level. -/
def Pins.withFault (p : Pins) (line : FaultLine) (level : Bool) : Pins :=
  match line with
  | .own x => { p with flt := p.flt.set x level }
  | .shared => { p with fltShared := level }

/-- GOOD_x is confirmed within its watch (R64): ACTIVE/CLOSING becomes ACTIVE/ON, and RELEASING/HELD stays with its watch
ended. -/
def goodConfirmed (x : Source) (s : State) : State :=
  let r := s.src x
  match r.goodWatch, r.state with
  | some _, .activeClosing => moveTo x .activeOn s
  | some _, .releasingHeld => setSrc x { r with goodWatch := none } s
  | _, _ => s

/-! ### Starts -/

/-- A source's start values (R50). -/
def startSource (c : SourceSettings) : SourceRun :=
  if c.enabled then .start else { SourceRun.start with state := .disabled }

/-- The start values of the power path (R50, R72), and the presence and latch levels seen at that moment, which begin
their debounce. -/
def startPower (s : State) : State :=
  let c := s.settings.power.sources
  let s := s.setPower { Power.start with src := ⟨startSource c.dc, startSource c.a, startSource c.b⟩ }
  let s := latchLevel .b s.pins.latch.b (latchLevel .a s.pins.latch.a s)
  onSources ⟨true, true, true⟩ formPresence s

/-! ### Pin and timer commands -/

/-- PRES_PIN_CHANGE (R54, R56). -/
def execPresPinChange (src : Source) (asserted : Bool) (s : State) : Host.Outcome State Fault Refusal :=
  onPin { s.pins with pres := s.pins.pres.set src asserted } (formPresence src) s

/-- PRESENCE_HOLD_EXPIRY (R54, R55). -/
def execPresenceHoldExpiry (src : Source) (s : State) : Host.Outcome State Fault Refusal :=
  inRun (actPower false (takeHeldPresence src)) s

/-- Whether a running qualify timer has reached the time it was started with (R57). -/
def qualifyReached (s : State) : QualifyTimer → Bool
  | .running since length => timeReached s since length
  | _ => false

/-- QUALIFY_EXPIRY (R57). -/
def execQualifyExpiry (src : Source) (s : State) : Host.Outcome State Fault Refusal :=
  inRun (actPower false fun s =>
    if (s.src src).state = .qualify && qualifyReached s (s.src src).qualify then moveTo src .standby s else s) s

/-- Whether the violation timer of a source in STANDBY has reached the violation time (R58). -/
def standbyViolationReached (x : Source) (s : State) : Bool :=
  match (s.src x).state, (s.src x).violation with
  | .standby, .running since _ => timeReached s since (s.srcSettings x).violationTime
  | _, _ => false

/-- STANDBY_VIOLATION_EXPIRY (R58). -/
def execStandbyViolationExpiry (src : Source) (s : State) : Host.Outcome State Fault Refusal :=
  inRun (actPower false fun s => if standbyViolationReached src s then moveTo src .qualify s else s) s

/-- WINDOW_FAULT_EXPIRY (R59). -/
def execWindowFaultExpiry (src : Source) (s : State) : Host.Outcome State Fault Refusal :=
  inRun (actPower false (takeWindowFault src)) s

/-- FAULT_PIN_ASSERT (R60): one assertion takes the fault on every source that watches the line. -/
def execFaultPinAssert (line : FaultLine) (s : State) : Host.Outcome State Fault Refusal :=
  onPin (s.pins.withFault line true) (actPower false (onSources ⟨true, true, true⟩ (faultFromLine line))) s

/-- FAULT_PIN_RELEASE (R60): the lines are read by level. -/
def execFaultPinRelease (line : FaultLine) (s : State) : Host.Outcome State Fault Refusal :=
  onPin (s.pins.withFault line false) id s

/-- GOOD_CONFIRM (R64). -/
def execGoodConfirm (src : Source) (s : State) : Host.Outcome State Fault Refusal :=
  onPin { s.pins with good := s.pins.good.set src true } (actPower false (goodConfirmed src)) s

/-- GOOD_RELEASE (R64): after the confirmation GOOD_x is not watched. -/
def execGoodRelease (src : Source) (s : State) : Host.Outcome State Fault Refusal :=
  onPin { s.pins with good := s.pins.good.set src false } id s

/-- SWITCH_WATCH_EXPIRY (R64): 5 ms without GOOD_x. -/
def execSwitchWatchExpiry (src : Source) (s : State) : Host.Outcome State Fault Refusal :=
  inRun (actPower false fun s =>
    if reachedSince s (s.src src).goodWatch 5 then takeFault src .switchFault s else s) s

/-- LATCH_PIN_CHANGE (R65). -/
def execLatchPinChange (bay : Bay) (opened : Bool) (s : State) : Host.Outcome State Fault Refusal :=
  onPin { s.pins with latch := s.pins.latch.set bay opened } (latchLevel bay opened) s

/-- LATCH_DEBOUNCE_EXPIRY (R65, R66). -/
def execLatchDebounceExpiry (bay : Bay) (s : State) : Host.Outcome State Fault Refusal :=
  inRun (actPower false fun s =>
    if reachedSince s (s.src (baySource bay)).pendingLatch 2 then latchChange bay s else s) s

/-- Whether the overlap timer has expired (R85). -/
def overlapReached (s : State) (t : Transfer) : Bool :=
  match t.step with
  | .overlap timer => timeReached s timer.since timer.length
  | .closingIncoming => false

/-- The outgoing sources open when the overlap timer expires; with no outgoing switch closed and the incoming source
ACTIVE/ON, the transfer then ends by R85. -/
def overlapExpires (s : State) : State :=
  match s.power.transfer with
  | some t => if overlapReached s t then onSources t.outgoing openSource s else s
  | none => s

/-- OVERLAP_EXPIRY (R85). -/
def execOverlapExpiry (s : State) : Host.Outcome State Fault Refusal := inRun (actPower false overlapExpires) s

/-! ### Requests -/

/-- CLEAR_FAULT's effect on one source (R63). -/
def clearFault (x : Source) (s : State) : State :=
  if (s.src x).state.code = 6 then
    if (s.srcSettings x).faultSelect = .forced then takeFault x .forced s
    else if (s.src x).presence then moveTo x .qualify s
    else moveTo x .absent s
  else s

/-- The service of CLEAR_FAULT (R63). -/
def serveClearFault (p : List Byte) (s : State) : Served :=
  withLength p 1 s fun _ =>
    match sourceMask? (byteAt p 0) with
    | some m => answer .ok [] (actPower false (onSources m clearFault) s)
    | none => refuse .badValue s

/-- Clears attach_seen and detach_seen (R71). -/
def clearSeen (x : Source) (s : State) : State := setSrc x { s.src x with attachSeen := false, detachSeen := false } s

/-- The service of GET_SOURCE (R71): the flags are cleared after the records have been taken. -/
def serveGetSource (p : List Byte) (s : State) : Served :=
  withLength p 2 s fun _ =>
    match sourceMask? (byteAt p 0), isBool p 1 with
    | some m, true =>
      answer .ok (m.members.flatMap (sourceRecord s)) (if flagAt p 1 then onSources m clearSeen s else s)
    | _, _ => refuse .badValue s

/-- The service of GET_POWER (R94). -/
def serveGetPower (p : List Byte) (s : State) : Served :=
  withLength p 0 s fun _ => answer .ok (powerBody s) (takeFree s)

/-- Stores the power path settings. -/
def setPowerSettings (c : PowerSettings) (s : State) : State := s.setSettings { s.settings with power := c }

/-- The effect of taken power path settings (R75): a change of policy calls an evaluation, and the settling recomputes
the SOLE reasons. -/
def takePolicy (policy : Policy) (overlap : Nat) (lockSole : Bool) (s : State) : State :=
  actPower (decide (s.settings.power.policy ≠ policy))
    (setPowerSettings { s.settings.power with policy := policy, overlap := overlap, lockSole := lockSole }) s

/-- The service of SET_POLICY (R75). During a transfer undefined fields are answered BAD_VALUE, in the order of R8's checks,
though R75 says BAD_STATE whatever the fields (DEDUCED, log 42). -/
def serveSetPolicy (p : List Byte) (s : State) : Served :=
  withLength p 3 s fun _ =>
    match policy? (u8 p 0), isBool p 2 with
    | some policy, true =>
      if s.power.transfer.isSome then refuse .badState s
      else
        let overlap := clampNat (u8 p 1) 1 20
        answer (clampStatus (outside (u8 p 1) 1 20)) (le8 overlap) (takePolicy policy overlap (flagAt p 2) s)
    | _, _ => refuse .badValue s

/-- The settings every source has, as a SET_SOURCE carries them, clamped (R69). -/
def sourceSettingsOf (p : List Byte) (presence : PresenceSelect) (faultSelect : FaultSelect) : SourceSettings :=
  let low := clampNat (u16 p 6) 0 30000
  { enabled := flagAt p 1
    presence := presence
    threshold := clampNat (u16 p 3) 0 20000
    faultSelect := faultSelect
    windowLow := low
    windowHigh := clampNat (u16 p 8) low 30000
    qualifyTime := clampNat (u16 p 10) 50 2000
    violationTime := clampNat (u8 p 12) 10 200 }

/-- The bay settings after a SET_SOURCE: an optional field that is absent leaves the stored value (R69). -/
def baySettingsOf (p : List Byte) (c : BaySettings) : BaySettings :=
  { overcurrent := if flagAt p 13 then clampNat (u16 p 14) 1000 10000 else c.overcurrent
    lowThreshold := if flagAt p 16 then clampNat (u16 p 17) 0 20000 else c.lowThreshold
    rideThrough := if flagAt p 19 then clampNat (u8 p 20) 0 50 else c.rideThrough }

/-- Whether SET_SOURCE moved a scalar it carries to its bound. -/
def sourceMoved (p : List Byte) : Bool :=
  outside (u16 p 3) 0 20000 || outside (u16 p 6) 0 30000 || outside (u16 p 8) (clampNat (u16 p 6) 0 30000) 30000
    || outside (u16 p 10) 50 2000 || outside (u8 p 12) 10 200
    || (flagAt p 13 && outside (u16 p 14) 1000 10000) || (flagAt p 16 && outside (u16 p 17) 0 20000)
    || (flagAt p 19 && outside (u8 p 20) 0 50)

/-- The structural checks of SET_SOURCE (R69): booleans and presence bytes, and for DC neither CURRENT nor an optional
field. -/
def sourceFieldsGood (p : List Byte) (m : SourceSet) (faultSelect : FaultSelect) : Bool :=
  isBool p 1 && isBool p 13 && isBool p 16 && isBool p 19 &&
    !(m.dc && (faultSelect == .current || flagAt p 13 || flagAt p 16 || flagAt p 19))

/-- Whether SET_SOURCE is not allowed now (R69): a selected source is in the transfer in flight, or the request would
move every source with a closed switch out of ACTIVE and RELEASING/HELD. -/
def sourceBadState (m : SourceSet) (c : SourceSettings) (s : State) : Bool :=
  (match s.power.transfer with
    | some t => allSources.any fun x => m.get x && (x == t.incoming || t.outgoing.get x)
    | none => false)
  || ((!c.enabled || c.faultSelect == .forced) && !s.power.feeding.isEmpty && s.power.feeding.within m)

/-- Stores a source's settings, and a bay's (R69). -/
def storeSource (c : SourceSettings) (bayOf : BaySettings → BaySettings) (x : Source) (s : State) : State :=
  let p := s.settings.power
  setPowerSettings
    { p with
      sources := p.sources.set x c
      bays := match sourceBay x with
        | some bay => p.bays.set bay (bayOf (p.bays.get bay))
        | none => p.bays } s

/-- Disabling (R70). -/
def disableSource (x : Source) (s : State) : State :=
  enterState x .disabled
    (setSrc x { s.src x with presence := false, pendingPresence := none, attachSeen := false, detachSeen := false } s)

/-- Enabling (R70): the source moves to ABSENT and its presence indication is formed at once. -/
def enableSource (x : Source) (s : State) : State := formPresence x (enterState x .absent s)

/-- The effect of a change of the enabled setting (R70). -/
def applyEnabled (old new : SourceSettings) (x : Source) (s : State) : State :=
  if old.enabled && !new.enabled then disableSource x s
  else if !old.enabled && new.enabled then enableSource x s
  else s

/-- The effect of a change of the presence select or threshold: the indication is formed anew (R54, R70). -/
def applyPresence (old new : SourceSettings) (x : Source) (s : State) : State :=
  if old.presence ≠ new.presence ∨ old.threshold ≠ new.threshold then formPresence x s else s

/-- The effect of a change of the fault select (R70): the current count becomes 0, and a select that now holds takes its
fault in a state that takes faults. -/
def applyFaultSelect (old new : SourceSettings) (x : Source) (s : State) : State :=
  if old.faultSelect = new.faultSelect then s
  else
    let s := setSrc x { s.src x with currentCount := 0 } s
    match faultCondition new s.pins x with
    | some k => if (s.src x).state.takesFaults then takeFault x k s else s
    | none => s

/-- The effect of new settings on a source's running state (R70), the new settings being stored. -/
def applySource (old new : SourceSettings) (x : Source) (s : State) : State :=
  applyFaultSelect old new x (applyPresence old new x (applyEnabled old new x s))

/-- The effect of a taken SET_SOURCE: every selected source takes the values together, in one act (R6, R12, R70). -/
def takeSource (m : SourceSet) (c : SourceSettings) (bayOf : BaySettings → BaySettings) (s : State) : State :=
  let old := s.settings.power.sources
  actPower false
    (fun s => onSources m (fun x => applySource (old.get x) c x) (onSources m (storeSource c bayOf) s)) s

/-- The stored values a SET_SOURCE reply echoes (R69): the bay settings from the first selected bay, or 0. -/
def sourceEcho (m : SourceSet) (c : SourceSettings) (p : PowerSettings) : List Byte :=
  le16 c.threshold ++ le16 c.windowLow ++ le16 c.windowHigh ++ le16 c.qualifyTime ++ le8 c.violationTime ++
    (match allBays.find? fun bay => m.get (baySource bay) with
     | some bay =>
       le16 (p.bays.get bay).overcurrent ++ le16 (p.bays.get bay).lowThreshold ++ le8 (p.bays.get bay).rideThrough
     | none => le16 0 ++ le16 0 ++ le8 0)

/-- The service of SET_SOURCE (R69). -/
def serveSetSource (p : List Byte) (s : State) : Served :=
  withLength p 21 s fun _ =>
    match sourceMask? (byteAt p 0), presenceSelect? (u8 p 2), faultSelect? (u8 p 5) with
    | some m, some presence, some faultSelect =>
      if sourceFieldsGood p m faultSelect then
        let c := sourceSettingsOf p presence faultSelect
        if sourceBadState m c s then refuse .badState s
        else
          let t := takeSource m c (baySettingsOf p) s
          answer (clampStatus (sourceMoved p)) (sourceEcho m c t.settings.power) t
      else refuse .badValue s
    | _, _, _ => refuse .badValue s

/-- SET_SOURCE (R69, R70). -/
def execSetSource (tag : Byte) (payload : List Byte) (s : State) : Host.Outcome State Fault Refusal :=
  request 0x20 serveSetSource tag payload s

/-- GET_SOURCE (R71). -/
def execGetSource (tag : Byte) (payload : List Byte) (s : State) : Host.Outcome State Fault Refusal :=
  request 0x21 serveGetSource tag payload s

/-- CLEAR_FAULT (R63). -/
def execClearFault (tag : Byte) (payload : List Byte) (s : State) : Host.Outcome State Fault Refusal :=
  request 0x22 serveClearFault tag payload s

/-- SET_POLICY (R75). -/
def execSetPolicy (tag : Byte) (payload : List Byte) (s : State) : Host.Outcome State Fault Refusal :=
  request 0x23 serveSetPolicy tag payload s

/-- GET_POWER (R94). -/
def execGetPower (tag : Byte) (payload : List Byte) (s : State) : Host.Outcome State Fault Refusal :=
  request 0x24 serveGetPower tag payload s

end Sys2Proof.Machine
end

