-- ==== Sys2Proof/Machine/ShockLog.lean ====
section
/-! DEFINITION. The shock log (chapter 10): the write of a completed record, and the reading and clearing of the log. -/

namespace Sys2Proof.Machine

/-! ### Writing -/

/-- The most records the log holds (R179). -/
def logCapacity : Nat := 32

/-- The highest value next_seq takes; a write that finds it wraps (R179, R180). -/
def lastNextSeq : Nat := 4294967295

/-- Step 1 of a write: the log is emptied and next_seq becomes 1 at the highest value (R180). -/
def Store.wrapped (st : Store) : Store :=
  if st.nextSeq = lastNextSeq then { st with log := [], nextSeq := 1 } else st

/-- Step 2 of a write: the oldest record of a full log is removed (R180). -/
def dropOldest (log : List ShockRecord) : List ShockRecord := if logCapacity ≤ log.length then log.tail else log

/-- A write (R180): the record takes its seq and is placed after every record in the log. The seq the record comes with
is not used. -/
def Store.write (st : Store) (r : ShockRecord) : Store :=
  let w := st.wrapped
  Store.withWord { w with
    log := dropOldest w.log ++ [{ r with seq := w.nextSeq }]
    nextSeq := w.nextSeq + 1 }

/-- Writes a record to the shock log (R180). -/
def writeLog (r : ShockRecord) (s : State) : State := s.setStore (s.store.write r)

/-! ### Reading and clearing -/

/-- The seq of the oldest record, or next_seq when the log is empty (R179). -/
def Store.oldestSeq (st : Store) : Nat :=
  match st.log with
  | r :: _ => r.seq
  | [] => st.nextSeq

/-- The records from the start point on (R182). -/
def Store.fromSeq (st : Store) (seq : Nat) : List ShockRecord := st.log.filter fun r => decide (seq ≤ r.seq)

/-- The records taken into a reply (R183), with `room` bytes and `count` records left. -/
def packRecords : List ShockRecord → Nat → Nat → List ShockRecord
  | [], _, _ => []
  | r :: rest, room, count =>
    if count = 0 ∨ room < r.size then [] else r :: packRecords rest (room - r.size) (count - 1)

/-- The bytes a READ_LOG reply has for records (R183). -/
def logRoom : Nat := 51

/-- The service of READ_LOG (R182, R183). -/
def serveReadLog (p : List Byte) (s : State) : Served :=
  withLength p 5 s fun _ =>
    answer (clampStatus (outside (u8 p 4) 1 8))
      (le32 s.store.oldestSeq ++ le32 s.store.nextSeq
        ++ (packRecords (s.store.fromSeq (u32 p 0)) logRoom (clampNat (u8 p 4) 1 8)).flatMap ShockRecord.encode) s

/-- The store without the records at or below `upTo` (R184). -/
def Store.clear (st : Store) (upTo : Nat) : Store :=
  Store.withWord { st with log := st.log.filter fun r => decide (upTo < r.seq) }

/-- The service of CLEAR_LOG (R184). -/
def serveClearLog (p : List Byte) (s : State) : Served :=
  withLength p 4 s fun _ =>
    let st := s.store.clear (u32 p 0)
    answer .ok (le32 st.oldestSeq ++ le32 st.nextSeq) (s.setStore st)

/-- READ_LOG (R182, R183). -/
def execReadLog (tag : Byte) (payload : List Byte) (s : State) : Host.Outcome State Fault Refusal :=
  request 0x50 serveReadLog tag payload s

/-- CLEAR_LOG (R184). -/
def execClearLog (tag : Byte) (payload : List Byte) (s : State) : Host.Outcome State Fault Refusal :=
  request 0x51 serveClearLog tag payload s

end Sys2Proof.Machine
end

