-- ==== Sys2Proof/Machine/DropDetect.lean ====
section
/-! DEFINITION. The drop detector (chapter 9): the protections, the open record and its writing, the handling of a sample
in each drop state, and what the motion port's changes do to a drop. -/

namespace Sys2Proof.Machine

/-! ### The sample counts (R147) -/

/-- The fall confirm count. -/
def MotionScalars.confirmCount (c : MotionScalars) : Nat := sampleCount c.fallConfirm c.rate

/-- The return count target. -/
def MotionScalars.returnTarget (c : MotionScalars) : Nat := sampleCount c.returnTime c.rate

/-- The impact quiet count. -/
def MotionScalars.quietTarget (c : MotionScalars) : Nat := sampleCount c.impactQuiet c.rate

/-- The guard count target. -/
def MotionScalars.guardTarget (c : MotionScalars) : Nat := sampleCount c.guardTime c.rate

/-- The max fall count. -/
def MotionScalars.maxFallCount (c : MotionScalars) : Nat := sampleCount c.maxFall c.rate

/-- The motion settings of SET_MOTION now held. -/
def State.motionScalars (s : State) : MotionScalars := s.settings.motion.scalars

/-! ### Protections (R173) -/

/-- Whether a drop is in progress, which is when the protections stand (R173). -/
def DropState.inDrop : DropState → Bool
  | .falling | .impact | .recover => true
  | .suspended | .calm => false

/-- Hands a change of DROP in a bay's reason set to the lock controller (R97). -/
def handDrop (on : Bool) (bay : Bay) (s : State) : State :=
  changeReasons bay { (s.locks.get bay).reasons with drop := on } s

/-- Raises the protections: PARK, the contact guard, and DROP in both bays (R173) (the order: DEDUCED, log 21). -/
def raiseProtections (s : State) : State :=
  handDrop true .b (handDrop true .a (s.setDrop { s.drop with park := true, contactGuard := true }))

/-- Releases the protections: PARK, the contact guard, on which the power path evaluates, and DROP (R173)
(the order: DEDUCED, log 21). -/
def releaseProtections (s : State) : State :=
  handDrop false .b (handDrop false .a (guardTurnedOff (s.setDrop { s.drop with park := false, contactGuard := false })))

/-! ### The open record -/

/-- The record at its opening (R167); `follows` is present for a new leg. -/
def newRecord (kind : Option RecordKind) (time : Moment) (follows : Option Nat) (s : State) : OpenRecord :=
  { kind := kind, time := time, bounce := follows.isSome, guardUsed := false, lockLate := false, long := false,
    condition := s.power.condition, feeding := s.power.feeding, fallLength := 0, peak := none, follows := follows }

/-- Whether a record of this kind has a fall group (R27). -/
def RecordKind.hasFall : RecordKind → Bool
  | .fallImpact | .fallNoImpact => true
  | .impactOnly => false

/-- Whether a record of this kind has an impact group (R27). -/
def RecordKind.hasImpact : RecordKind → Bool
  | .fallImpact | .impactOnly => true
  | .fallNoImpact => false

/-- The completed record (R171, R172, R175). A kind still pending becomes FALL_NO_IMPACT, with n the fall count. The seq
is the shock log's to assign. -/
def OpenRecord.complete (r : OpenRecord) (truncated : Bool) (fallCount : Nat) (rate : Rate) : ShockRecord :=
  let kind := r.kind.getD .fallNoImpact
  let n := if r.kind.isNone then fallCount else r.fallLength
  { seq := 0
    time := r.time
    kind := kind
    truncated := truncated
    bounce := r.bounce
    guardUsed := r.guardUsed
    lockLate := r.lockLate
    long := r.long
    condition := r.condition
    feeding := r.feeding
    fall := if kind.hasFall then some (fallGroup n rate) else none
    impact := if kind.hasImpact then some (impactGroup (r.peak.getD ⟨0, .x, 0⟩) rate) else none
    follows := if r.bounce then r.follows else none }

/-- Writes the open record to the log, without a notice; with none open nothing happens (R171). -/
def storeRecord (truncated : Bool) (s : State) : State :=
  match s.drop.record with
  | some r =>
    (writeLog (r.complete truncated s.drop.fallCount s.motionScalars.rate) s).setDrop { s.drop with record := none }
  | none => s

/-- Writes the open record and posts DROP/RECORD (R171, R177). -/
def writeRecord (truncated : Bool) (s : State) : State :=
  postIf s.drop.record.isSome .dropRecord (storeRecord truncated s)

/-! ### Entering the drop states -/

/-- Enters FALLING with a new record whose kind is pending (R166, R170). -/
def enterFalling (follows : Option Nat) (s : State) : State :=
  post .dropFalling (s.setDrop { s.drop with
    state := .falling
    fallCount := s.drop.lowRun
    returnCount := 0
    record := some (newRecord none s.drop.runStart follows s) })

/-- Whether both bays are LOCKED (R169). -/
def bothLocked (s : State) : Bool := s.locks.a.state == .locked && s.locks.b.state == .locked

/-- Enters IMPACT with the first impact sample of the record (R169). -/
def enterImpact (r : OpenRecord) (v : Vec3) (s : State) : State :=
  post .dropImpact (s.setDrop { s.drop with
    state := .impact
    quietCount := 0
    record := some { r with
      peak := some { m2 := magnitude2 v, axis := peakAxis v, k := 1 }
      lockLate := r.lockLate || !bothLocked s } })

/-- Enters RECOVER (R170). -/
def enterRecover (r : OpenRecord) (s : State) : State :=
  s.setDrop { s.drop with state := .recover, guardCount := 0, lowRun := 0, record := some r }

/-- Enters CALM with the low run at 0 (R165). -/
def enterCalm (s : State) : State := s.setDrop { s.drop with state := .calm, lowRun := 0 }

/-- The low run and its start after a sample that is not high (R166, R170). -/
def noteRun (low : Bool) (time : Moment) (s : State) : State :=
  if low then
    s.setDrop { s.drop with
      lowRun := s.drop.lowRun + 1
      runStart := if s.drop.lowRun = 0 then time else s.drop.runStart }
  else s.setDrop { s.drop with lowRun := 0 }

/-! ### Samples -/

/-- The class of a sample under the thresholds held (R163). -/
def classOf (x : Sample) (s : State) : SampleClass := classify s.motionScalars (magnitude2 x.v)

/-- A sample in CALM (R166). -/
def calmSample (x : Sample) (s : State) : State :=
  match classOf x s with
  | .high =>
    let t := raiseProtections s
    enterImpact (newRecord (some .impactOnly) x.time none t) x.v t
  | .low =>
    let t := noteRun true x.time s
    if s.motionScalars.confirmCount ≤ t.drop.lowRun then enterFalling none (raiseProtections t) else t
  | .ordinary => noteRun false x.time s

/-- The counters of FALLING after a sample that is not high (R168, step 2). -/
def countFall (low : Bool) (s : State) : State :=
  s.setDrop { s.drop with
    fallCount := s.drop.fallCount + 1
    returnCount := if low then 0 else s.drop.returnCount + 1 }

/-- Steps 3 and 4 of R168: the ends of a fall without an impact. -/
def endFall (r : OpenRecord) (s : State) : State :=
  let d := s.drop
  if s.motionScalars.returnTarget ≤ d.returnCount then
    enterRecover { r with fallLength := d.fallCount - d.returnCount, kind := some .fallNoImpact } s
  else if s.motionScalars.maxFallCount ≤ d.fallCount then
    enterRecover { r with fallLength := d.fallCount, kind := some .fallNoImpact, long := true } s
  else s

/-- A sample in FALLING (R168). -/
def fallingSample (x : Sample) (r : OpenRecord) (s : State) : State :=
  match classOf x s with
  | .high => enterImpact { r with fallLength := s.drop.fallCount, kind := some .fallImpact } x.v s
  | .low => endFall r (countFall true s)
  | .ordinary => endFall r (countFall false s)

/-- The peak after one more high sample (R169). -/
def Peak.next (p : Peak) (v : Vec3) : Peak :=
  if p.m2 < magnitude2 v then { m2 := magnitude2 v, axis := peakAxis v, k := p.k + 1 } else { p with k := p.k + 1 }

/-- A later sample in IMPACT (R169). -/
def impactSample (x : Sample) (r : OpenRecord) (s : State) : State :=
  match classOf x s with
  | .high => s.setDrop { s.drop with quietCount := 0, record := some { r with peak := r.peak.map (·.next x.v) } }
  | .low | .ordinary =>
    let t := s.setDrop { s.drop with quietCount := s.drop.quietCount + 1 }
    if s.motionScalars.quietTarget ≤ t.drop.quietCount then enterRecover r t else t

/-- The seq the record written now will take (R180), which a new leg's record follows. -/
def seqToAssign (s : State) : Option Nat := some (nextAssigned s.store.nextSeq)

/-- The end of a drop at the guard count (R170): the record is written, and the protections come off. -/
def endDrop (s : State) : State := post .dropCalm (releaseProtections (enterCalm (writeRecord false s)))

/-- A sample in RECOVER (R170). -/
def recoverSample (x : Sample) (s : State) : State :=
  match classOf x s with
  | .high =>
    let t := writeRecord false s
    enterImpact (newRecord (some .impactOnly) x.time (seqToAssign s) t) x.v t
  | c =>
    let t := noteRun (c == .low) x.time (s.setDrop { s.drop with guardCount := s.drop.guardCount + 1 })
    if c == .low && decide (s.motionScalars.confirmCount ≤ t.drop.lowRun) then
      enterFalling (seqToAssign t) (writeRecord false t)
    else if s.motionScalars.guardTarget ≤ t.drop.guardCount then endDrop t
    else t

/-- Handles one sample in the state the detector is in; FALLING and IMPACT hold an open record. -/
def sampleInState (x : Sample) (s : State) : State :=
  match s.drop.state, s.drop.record with
  | .suspended, _ => s
  | .calm, _ => calmSample x s
  | .falling, some r => fallingSample x r s
  | .impact, some r => impactSample x r s
  | .recover, _ => recoverSample x s
  | .falling, none => s
  | .impact, none => s

/-- One sample the motion port hands over (R165): in SUSPENDED it first takes the detector to CALM. -/
def handleSample (s : State) (x : Sample) : State :=
  sampleInState x (if s.drop.state = .suspended then enterCalm s else s)

/-! ### The motion port's changes -/

/-- Enters SUSPENDED. -/
def suspendDrop (s : State) : State := s.setDrop { s.drop with state := .suspended }

/-- The port is in a state other than STREAMING (R165, R175): a drop in progress is truncated. -/
def portLeft (s : State) : State :=
  if s.drop.state.inDrop then releaseProtections (suspendDrop (writeRecord true s)) else suspendDrop s

/-- The port has returned from CHECKING to STREAMING (R165). -/
def portReturned (s : State) : State := enterCalm s

/-! ### Starts -/

/-- The detector's reset in a requested start (R178): in a drop its protections come off as ordinary changes. Any open
record has been written already (R25). -/
def resetDrop (s : State) : State :=
  if s.drop.state.inDrop then
    let t := releaseProtections (suspendDrop s)
    t.setDrop .start
  else s.setDrop .start

end Sys2Proof.Machine
end

