-- ==== Sys2Proof/Machine/MotionPort.lean ====
section
/-! DEFINITION. The motion port (chapter 8): the bus, the setup list, bursts and samples, the self-check, and its
commands. -/

namespace Sys2Proof.Machine

/-! ### The bus and bursts -/

/-- The motion settings now held. -/
def State.motionSettings (s : State) : MotionSettings := s.settings.motion

/-- Whether the port watches MINT (R153). -/
def PortState.watchesMint : PortState → Bool
  | .streaming | .checking => true
  | .off | .setup | .lost => false

/-- The time a burst takes for its samples (R155). -/
def BurstCall.time (call : BurstCall) (now : Moment) : Moment :=
  match call with
  | .assertion t => t
  | .level => now

/-- The address byte of a read transfer: bit 7 set, the register address in bits 0 to 6 (R146). -/
def readAddress (address : Byte) : Byte := address ||| 0x80

/-- The bytes a write transfer sends: the address byte, its bit 7 clear, and the value (R146). -/
def writeBytes (address value : Byte) : List Byte := [address &&& 0x7F, value]

/-- The bytes the transfer of a setup entry sends (R146, R149). A WAIT has no transfer. -/
def SetupEntry.sent : SetupEntry → List Byte
  | .write address value => writeBytes address value
  | .check address _ _ => [readAddress address]
  | .wait _ => []

/-- The bytes the transfer in progress sends on MDO (R146). -/
def Bus.sent : Bus → List Byte
  | .idle => []
  | .setupTransfer sent => sent
  | .burst _ addressByte _ => [addressByte]
  | .listWrite _ (write :: _) => writeBytes write.address write.value
  | .listWrite _ [] => []

/-- Starts a burst with the W and data address in force (R153); its address byte is that of a read (R146). -/
def startBurst (call : BurstCall) (s : State) : State :=
  let c := s.motionScalars
  s.setMotion { s.motion with bus := .burst c.w (readAddress c.address) (call.time s.timeBase), burstWaiting := none }

/-- A burst that falls due starts, or waits for the bus (R153). -/
def callBurst (call : BurstCall) (s : State) : State :=
  match s.motion.bus with
  | .idle => startBurst call s
  | _ => s.setMotion { s.motion with burstWaiting := some (s.motion.burstWaiting.getD call) }

/-- The stall time with the W and rate in force, in ms (R153). -/
def stallTime (c : MotionScalars) : Nat := (4000 * c.w + c.rate.hz - 1) / c.rate.hz + 20

/-- Starts the stall timer afresh (R153). -/
def startStall (s : State) : State :=
  s.setMotion { s.motion with stall := some { since := s.timeBase, length := stallTime s.motionScalars } }

/-- An assertion of MINT while the port watches it (R153). One that comes while a burst waits for the bus is not
taken (log 19). -/
def takeMint (s : State) : State :=
  match s.motion.bus with
  | .burst _ _ _ =>
    startStall (s.setMotion { s.motion with burstPending := some (s.motion.burstPending.getD s.timeBase) })
  | _ => if s.motion.burstWaiting.isSome then s else callBurst (.assertion s.timeBase) (startStall s)

/-- On entry to STREAMING with MINT asserted a burst starts at once, unless one is in progress or waits (R153). -/
def burstOnEntry (s : State) : State :=
  match s.motion.bus, s.motion.burstWaiting with
  | .burst _ _ _, _ => s
  | _, some call => callBurst call s
  | _, none => if s.pins.mint then callBurst .level s else s

/-- After a burst has been handled, the next one starts if the pending flag is set or MINT is asserted (R153)
(its time: DEDUCED, log 18). -/
def nextBurst (s : State) : State :=
  if s.motion.port.watchesMint then
    match s.motion.burstPending with
    | some t => callBurst (.assertion t) (s.setMotion { s.motion with burstPending := none })
    | none => if s.pins.mint then callBurst .level s else s
  else s

/-- The bus when the transfer in progress is cut off: idle, but for the off-list an abort writes, which goes on to its
end (R146, R160; log 20). -/
def Bus.cut : Bus → Bus
  | .listWrite .abortOff left => .listWrite .abortOff left
  | _ => .idle

/-! ### Entering the port states -/

/-- What every entry to SETUP, LOST or OFF does: the transfer in progress is cut off, the pending flag cleared, the BAD
count 0, and the timers stopped (R150, R152, R153). -/
def Motion.left (m : Motion) (port : PortState) : Motion :=
  { m with
    port := port
    badCount := 0
    burstPending := none
    burstWaiting := none
    stall := none
    retry := none
    bus := m.bus.cut }

/-- Enters OFF, SETUP or LOST; the change is handed to the drop detector in the same act (R150, R165). -/
def leaveTo (port : PortState) (s : State) : State := portLeft (s.setMotion (s.motion.left port))

/-- Enters OFF (R150). -/
def enterOff (s : State) : State := leaveTo .off s

/-- Starts the retry timer (R152). -/
def startRetry (s : State) : State := s.setMotion { s.motion with retry := some s.timeBase }

/-- Enters LOST (R152); `silent` for a failed run that the retry timer began. -/
def enterLost (silent : Bool) (s : State) : State :=
  leaveTo .lost (postIf (!silent) .motionLost s) |> startRetry

/-- Enters STREAMING from SETUP (R152, R153). The detector stays SUSPENDED until its first sample (R165). -/
def enterStreaming (s : State) : State :=
  burstOnEntry (startStall (post .motionStreaming (s.setMotion { s.motion with port := .streaming })))

/-! ### The setup list -/

/-- The entry of the setup list in progress, if the list holds one at that place. -/
def presentEntry (s : State) : Option SetupEntry := s.motionSettings.setupList[s.motion.setup.entry]?

/-- Begins the transfer of a setup entry if the bus is free; else the entry waits for it (R146, R151). -/
def beginTransfer (entry : SetupEntry) (s : State) : State :=
  match s.motion.bus with
  | .idle => s.setMotion { s.motion with bus := .setupTransfer entry.sent }
  | _ => s

/-- Begins the present entry of the list, or passes the run when no entry is left (R151). -/
def beginEntry (s : State) : State :=
  match presentEntry s with
  | some (.wait _) => s.setMotion { s.motion with setup := { s.motion.setup with waitSince := some s.timeBase } }
  | some entry => beginTransfer entry s
  | none => enterStreaming (s.setMotion { s.motion with failEntry := 0 })

/-- Enters SETUP, or starts its run afresh, with the first entry (R151); `byRetry` when the retry timer begins the run. -/
def enterSetup (byRetry : Bool) (s : State) : State :=
  let t := leaveTo .setup s
  beginEntry (t.setMotion { t.motion with setup := { SetupRun.start with byRetry := byRetry } })

/-- The present entry has ended and the next begins (R151). -/
def nextEntry (s : State) : State :=
  let r := s.motion.setup
  beginEntry (s.setMotion { s.motion with setup := { r with entry := r.entry + 1, waitSince := none }, bus := s.motion.bus.cut })

/-- Whether a CHECK fails on the byte it read (R149). -/
def checkFails (expected mask byte : Byte) : Bool := ((byte ^^^ expected) &&& mask) != 0

/-- A CHECK has failed (R151, R152). -/
def failRun (s : State) : State :=
  enterLost s.motion.setup.byRetry (s.setMotion { s.motion with failEntry := s.motion.setup.entry + 1 })

/-- The transfer of a WRITE or a CHECK ends (R151). -/
def endEntry (byte : Byte) (s : State) : State :=
  match s.motion.port, s.motion.bus, presentEntry s with
  | .setup, .setupTransfer _, some (.write _ _) => nextEntry s
  | .setup, .setupTransfer _, some (.check _ expected mask) => if checkFails expected mask byte then failRun s else nextEntry s
  | _, _, _ => s

/-- The time of a WAIT entry runs out (R151). -/
def endWait (s : State) : State :=
  match s.motion.port, presentEntry s with
  | .setup, some (.wait ms) => if reachedSince s s.motion.setup.waitSince ms then nextEntry s else s
  | _, _ => s

/-! ### Samples (R155) -/

/-- A count in milli-g. -/
def milliG (scale : Nat) (count : Int) : Int := (count * scale).tdiv 256

/-- The three values of the sample at place `i` of a burst. -/
def sampleValue (scale : Nat) (bytes : List Byte) (i : Nat) : Vec3 :=
  { x := milliG scale (s16 bytes (6 * i)), y := milliG scale (s16 bytes (6 * i + 2)), z := milliG scale (s16 bytes (6 * i + 4)) }

/-- The time of the sample at place `i` of `w`. -/
def sampleTime (w : Nat) (rate : Rate) (time : Moment) (i : Nat) : Moment :=
  time - BitVec.ofNat 32 ((w - 1 - i) * 1000 / rate.hz)

/-- The samples of a COMPLETE burst, oldest first. -/
def burstSamples (c : MotionScalars) (w : Nat) (time : Moment) (bytes : List Byte) : List Sample :=
  (List.range w).map fun i => { v := sampleValue c.scale bytes i, time := sampleTime w c.rate time i }

/-! ### The self-check (R157 to R160) -/

/-- Adds two vectors. -/
def Vec3.add (u v : Vec3) : Vec3 := ⟨u.x + v.x, u.y + v.y, u.z + v.z⟩

/-- Subtracts two vectors. -/
def Vec3.sub (u v : Vec3) : Vec3 := ⟨u.x - v.x, u.y - v.y, u.z - v.z⟩

/-- The mean of 16 samples from their sums, truncated toward zero (R158). -/
def meanOf16 (v : Vec3) : Vec3 := ⟨v.x.tdiv 16, v.y.tdiv 16, v.z.tdiv 16⟩

/-- Whether a property holds on every axis. -/
def Vec3.everyAxis (v : Vec3) (f : Int → Bool) : Bool := f v.x && f v.y && f v.z

/-- The stage a phase counts as (R159). -/
def CheckPhase.stage : CheckPhase → Nat
  | .baseline => 1
  | .onSettle | .on => 2
  | .offSettle | .ret => 3

/-- Stage 2 passes (R158). -/
def stage2Passes (c : CheckSettings) (delta : Vec3) : Bool :=
  delta.everyAxis fun d => decide (c.deltaMin ≤ d.natAbs ∧ d.natAbs ≤ c.deltaMax)

/-- Stage 3 passes (R158). -/
def stage3Passes (c : CheckSettings) (baseline ret : Vec3) : Bool :=
  (ret.sub baseline).everyAxis fun d => decide (d.natAbs ≤ c.tolerance)

/-- The result of a check whose phases have all ended (R158, R159). -/
def judge (c : CheckSettings) (r : CheckRun) (ret : Vec3) : CheckResult :=
  if stage2Passes c r.delta then
    if stage3Passes c r.baseline ret then { outcome := .pass, stage := 0, baseline := r.baseline, delta := r.delta }
    else { outcome := .fail, stage := 3, baseline := r.baseline, delta := r.delta }
  else { outcome := .fail, stage := 2, baseline := r.baseline, delta := r.delta }

/-- Begins a list write at once; an empty list writes nothing (R158). -/
def beginList (list : WriteList) (writes : List ListWrite) (s : State) : State :=
  match writes with
  | [] => s
  | _ => s.setMotion { s.motion with bus := .listWrite list writes }

/-- Puts the progress of the check in place. -/
def setCheck (r : CheckRun) (s : State) : State := s.setMotion { s.motion with check := r }

/-- The end of a check (R160). -/
def endCheck (result : CheckResult) (s : State) : State :=
  portReturned (post .checkDone (s.setMotion { s.motion with port := .streaming, result := result }))

/-- What follows when a measuring phase has its 16 samples (R158). -/
def endMeasuring (r : CheckRun) (s : State) : State :=
  let c := s.motionSettings.check
  let mean := meanOf16 r.sum
  match r.phase with
  | .baseline => beginList .checkOn c.onList (setCheck { r with phase := .onSettle, count := 0, sum := .zero, baseline := mean } s)
  | .on =>
    beginList .checkOff c.offList
      (setCheck { r with phase := .offSettle, count := 0, sum := .zero, delta := mean.sub r.baseline } s)
  | .ret => endCheck (judge c r mean) s
  | .onSettle | .offSettle => s

/-- The phase a settle phase gives way to. -/
def CheckPhase.afterSettle : CheckPhase → CheckPhase
  | .onSettle => .on
  | .offSettle => .ret
  | p => p

/-- Whether a phase measures; the settle phases discard their samples. -/
def CheckPhase.measures : CheckPhase → Bool
  | .baseline | .on | .ret => true
  | .onSettle | .offSettle => false

/-- One sample of the check. The answer says whether the check takes the next sample of the burst: the samples left over
when a measuring phase ends are dropped (R158). -/
def checkSample (x : Sample) (s : State) : State × Bool :=
  let r := s.motion.check
  if r.phase.measures then
    let r := { r with count := r.count + 1, sum := r.sum.add x.v }
    if 16 ≤ r.count then (endMeasuring r s, false) else (setCheck r s, true)
  else if 8 ≤ r.count + 1 then (setCheck { r with phase := r.phase.afterSettle, count := 0 } s, true)
  else (setCheck { r with count := r.count + 1 } s, true)

/-- The samples of a burst handed to the check in order (R155, R158). -/
def checkSamples : List Sample → State → State
  | [], s => s
  | x :: rest, s =>
    match checkSample x s with
    | (t, true) => checkSamples rest t
    | (t, false) => t

/-- Whether an abort must write the off-list: the on-list write has begun and the off-list write has not ended (R160).
The on-list write begins when the baseline phase ends. -/
def offListDue (m : Motion) : Bool :=
  match m.check.phase, m.bus with
  | .onSettle, _ | .on, _ => true
  | _, .listWrite .checkOff _ => true
  | _, _ => false

/-- The result of an aborted check (R159, R160). -/
def abortedResult (r : CheckRun) : CheckResult :=
  { outcome := .aborted, stage := r.phase.stage, baseline := r.baseline, delta := r.delta }

/-- What every abort does before the port goes where the cause sends it (R160). -/
def abortCheck (s : State) : State :=
  let t := post .checkDone (s.setMotion { s.motion with result := abortedResult s.motion.check, bus := s.motion.bus.cut })
  if offListDue s.motion then beginList .abortOff s.motionSettings.check.offList t else t

/-- The return to STREAMING after an abort (R160, R165); a burst that waited, or MINT asserted, makes a burst due (R153). -/
def abortToStreaming (s : State) : State :=
  burstOnEntry (portReturned (s.setMotion { s.motion with port := .streaming }))

/-! ### The end of a burst and of a list write -/

/-- Whether the bytes of a burst are all 0x00 or all 0xFF (R154). -/
def burstIsBad (bytes : List Byte) : Bool := bytes.all (· == 0x00) || bytes.all (· == 0xFF)

/-- A BAD burst (R154, R160). -/
def badBurst (s : State) : State :=
  let t := s.setMotion { s.motion with burstStatus := .bad, badCount := s.motion.badCount + 1, bus := .idle }
  match s.motion.port, decide (3 ≤ s.motion.badCount + 1) with
  | .checking, true => enterLost false (abortCheck t)
  | .checking, false =>
    let a := abortCheck t
    nextBurst (portReturned (a.setMotion { a.motion with port := .streaming }))
  | _, true => enterLost false t
  | _, false => nextBurst t

/-- The samples of a COMPLETE burst go to the drop detector, or while CHECKING to the self-check, one after another within
the one act that ends the burst (R155). R163 calls the handling of each sample an act of its own; LTX and WAKE_N move once
for them all (DESIGN CHOICE, log 41). -/
def handSamples (samples : List Sample) (s : State) : State :=
  match s.motion.port with
  | .checking => checkSamples samples s
  | _ => samples.foldl handleSample s

/-- A COMPLETE burst (R154, R155). The scale in force at its end is used, also where it changed while the burst ran
(DESIGN CHOICE, log 40). -/
def completeBurst (w : Nat) (time : Moment) (bytes : List Byte) (s : State) : State :=
  nextBurst (handSamples (burstSamples s.motionScalars w time bytes)
    (s.setMotion { s.motion with
      burstStatus := .complete
      badCount := 0
      nextIndex := s.motion.nextIndex + BitVec.ofNat 32 w
      bus := .idle }))

/-- A burst ends having read these bytes (R154). Bytes that are not the burst's 6 × W are no end of it (log 3). -/
def endBurst (bytes : List Byte) (s : State) : State :=
  match s.motion.bus with
  | .burst w _ time =>
    if s.motion.port.watchesMint && bytes.length == 6 * w then
      if burstIsBad bytes then badBurst s else completeBurst w time bytes s
    else s
  | _ => s

/-- What the bus takes up when a list write has ended: the burst that waits for it, or the setup entry that does. -/
def busFreed (s : State) : State :=
  match s.motion.port, s.motion.burstWaiting with
  | .streaming, some call | .checking, some call => startBurst call s
  | .setup, _ =>
    match presentEntry s with
    | some (.wait _) | none => s
    | some entry => beginTransfer entry s
  | _, _ => s

/-- A write transfer of a list write ends; the next follows, or the bus is free (R158, R160). -/
def endListWrite (s : State) : State :=
  match s.motion.bus with
  | .listWrite list (_ :: next :: rest) => s.setMotion { s.motion with bus := .listWrite list (next :: rest) }
  | .listWrite _ _ => busFreed (s.setMotion { s.motion with bus := .idle })
  | _ => s

/-- The stall timer expires (R153, R160). -/
def stallExpires (s : State) : State :=
  if timerReached s s.motion.stall then
    match s.motion.port with
    | .streaming => enterLost false s
    | .checking => enterLost false (abortCheck s)
    | .off | .setup | .lost => s
  else s

/-- The retry timer expires (R152). -/
def retryExpires (s : State) : State :=
  if s.motion.port = .lost && reachedSince s s.motion.retry 500 then enterSetup true s else s

/-! ### Pin, timer and bus commands -/

/-- MINT_ASSERT (R153): the port takes the assertion of a line that was released (log 35). -/
def execMintAssert (s : State) : Host.Outcome State Fault Refusal :=
  onPin { s.pins with mint := true }
    (if s.pins.mint then id else fun t => if t.motion.port.watchesMint then takeMint t else t) s

/-- MINT_RELEASE (R153). -/
def execMintRelease (s : State) : Host.Outcome State Fault Refusal := onPin { s.pins with mint := false } id s

/-- SETUP_ENTRY_END (R151). -/
def execSetupEntryEnd (readByte : Byte) (s : State) : Host.Outcome State Fault Refusal := inRun (endEntry readByte) s

/-- SETUP_WAIT_EXPIRY (R151). -/
def execSetupWaitExpiry (s : State) : Host.Outcome State Fault Refusal := inRun endWait s

/-- RETRY_EXPIRY (R152). -/
def execRetryExpiry (s : State) : Host.Outcome State Fault Refusal := inRun retryExpires s

/-- STALL_EXPIRY (R153). -/
def execStallExpiry (s : State) : Host.Outcome State Fault Refusal := inRun stallExpires s

/-- BURST_END (R154, R155): one act for all samples of the burst (DESIGN CHOICE, log 41). -/
def execBurstEnd (bytes : List Byte) (s : State) : Host.Outcome State Fault Refusal := inRun (endBurst bytes) s

/-- CHECK_LIST_WRITE_END (R158, R160). -/
def execCheckListWriteEnd (s : State) : Host.Outcome State Fault Refusal := inRun endListWrite s

/-! ### Requests -/

/-- Stores the motion settings. -/
def storeMotion (c : MotionSettings) (s : State) : State := s.setSettings { s.settings with motion := c }

/-- The scalars a SET_MOTION carries, clamped (R148). -/
def motionScalarsOf (p : List Byte) (rate : Rate) : MotionScalars :=
  { enable := flagAt p 0
    rate := rate
    w := clampNat (u8 p 2) 1 16
    scale := clampNat (u16 p 3) 1 4096
    address := BitVec.ofNat 8 (clampNat (u8 p 5) 0 0x7F)
    tff := clampNat (u16 p 6) 100 1000
    timp := clampNat (u16 p 8) 1500 16000
    fallConfirm := clampNat (u8 p 10) 20 200
    returnTime := clampNat (u8 p 11) 8 100
    impactQuiet := clampNat (u8 p 12) 10 200
    guardTime := clampNat (u16 p 13) 100 2000
    maxFall := clampNat (u16 p 15) 200 3000 }

/-- Whether SET_MOTION moved a scalar to its bound. -/
def motionMoved (p : List Byte) : Bool :=
  outside (u8 p 2) 1 16 || outside (u16 p 3) 1 4096 || outside (u8 p 5) 0 0x7F || outside (u16 p 6) 100 1000
    || outside (u16 p 8) 1500 16000 || outside (u8 p 10) 20 200 || outside (u8 p 11) 8 100
    || outside (u8 p 12) 10 200 || outside (u16 p 13) 100 2000 || outside (u16 p 15) 200 3000

/-- The stored values a SET_MOTION reply echoes (R148). -/
def motionEcho (c : MotionScalars) : List Byte :=
  le8 c.w ++ le16 c.scale ++ [c.address] ++ le16 c.tff ++ le16 c.timp ++ le8 c.fallConfirm ++ le8 c.returnTime
    ++ le8 c.impactQuiet ++ le16 c.guardTime ++ le16 c.maxFall

/-- Whether W, the scale or the data address changes. -/
def burstFieldsChange (old new : MotionScalars) : Bool :=
  decide (old.w ≠ new.w) || decide (old.scale ≠ new.scale) || decide (old.address ≠ new.address)

/-- The check in progress is aborted, if there is one. -/
def abortIfChecking (s : State) : State := if s.motion.port = .checking then abortCheck s else s

/-- The effect of changed motion settings on the port (R148), the new settings being stored. -/
def applyMotion (old new : MotionScalars) (s : State) : State :=
  if old.enable && !new.enable then
    if s.motion.port = .off then s else enterOff (abortIfChecking s)
  else if !old.enable && new.enable then
    if s.motion.port = .off then enterSetup false s else s
  else if old.rate ≠ new.rate then
    if s.motion.port = .off then s else enterSetup false (abortIfChecking s)
  else if burstFieldsChange old new && decide (s.motion.port = .checking) then abortToStreaming (abortCheck s)
  else s

/-- Whether changed motion settings take the port out of STREAMING (R148). -/
def motionEndsDrop (old new : MotionScalars) : Bool := (old.enable && !new.enable) || decide (old.rate ≠ new.rate)

/-- The effect of a taken SET_MOTION (R148). A drop that the change ends is truncated with the rate its samples were
taken at (R172, R176) (DEDUCED, log 15). -/
def takeMotion (new : MotionScalars) (s : State) : State :=
  let old := s.motionScalars
  let s := if s.motion.port = .streaming && motionEndsDrop old new then portLeft s else s
  applyMotion old new (storeMotion { s.motionSettings with scalars := new } s)

/-- The service of SET_MOTION (R148). -/
def serveSetMotion (p : List Byte) (s : State) : Served :=
  withLength p 17 s fun _ =>
    match isBool p 0, rate? (u8 p 1) with
    | true, some rate =>
      let c := motionScalarsOf p rate
      answer (clampStatus (motionMoved p)) (motionEcho c) (takeMotion c s)
    | _, _ => refuse .badValue s

/-- A register address, clamped to 0x7F (R149, R156). -/
def clampAddress (n : Nat) : Byte := BitVec.ofNat 8 (clampNat n 0 0x7F)

/-- The entry of SET_SETUP_LIST at place `i`, clamped, with whether clamping moved a field; `none` for an undefined
kind (R149). -/
def setupEntry? (p : List Byte) (i : Nat) : Option (SetupEntry × Bool) :=
  let o := 1 + 4 * i
  match u8 p o with
  | 0 => some (.write (clampAddress (u8 p (o + 1))) (byteAt p (o + 2)), outside (u8 p (o + 1)) 0 0x7F)
  | 1 => some (.check (clampAddress (u8 p (o + 1))) (byteAt p (o + 2)) (byteAt p (o + 3)), outside (u8 p (o + 1)) 0 0x7F)
  | 2 => some (.wait (clampNat (u8 p (o + 1)) 1 100), outside (u8 p (o + 1)) 1 100)
  | _ => none

/-- The effect of a taken SET_SETUP_LIST (R149): like a change of rate, also for an equal list. -/
def takeSetupList (list : List SetupEntry) (s : State) : State :=
  let s := storeMotion { s.motionSettings with setupList := list } s
  if s.motion.port = .off then s else enterSetup false (abortIfChecking s)

/-- The service of SET_SETUP_LIST (R149). -/
def serveSetSetupList (p : List Byte) (s : State) : Served :=
  let count := u8 p 0
  withLength p (1 + 4 * count) s fun _ =>
    match (List.range count).mapM (setupEntry? p) with
    | some entries =>
      if 12 < count then refuse .badValue s
      else answer (clampStatus (entries.any (·.2))) [] (takeSetupList (entries.map (·.1)) s)
    | none => refuse .badValue s

/-- The `count` writes of a check list from offset `o` (R156). -/
def listWrites (p : List Byte) (o count : Nat) : List ListWrite :=
  (List.range count).map fun i => { address := clampAddress (u8 p (o + 2 * i)), value := byteAt p (o + 2 * i + 1) }

/-- Whether clamping moved an address of a check list. -/
def listMoved (p : List Byte) (o count : Nat) : Bool :=
  (List.range count).any fun i => outside (u8 p (o + 2 * i)) 0 0x7F

/-- The service of SET_CHECK_LISTS (R156). -/
def serveSetCheckLists (p : List Byte) (s : State) : Served :=
  let on := u8 p 0
  let off := u8 p (1 + 2 * on)
  withLength p (8 + 2 * (on + off)) s fun _ =>
    if 4 < on ∨ 4 < off then refuse .badValue s
    else if s.motion.port = .checking then refuse .badState s
    else
      let o := 2 + 2 * (on + off)
      let dmin := clampNat (u16 p o) 0 16000
      let c : CheckSettings :=
        { onList := listWrites p 1 on
          offList := listWrites p (2 + 2 * on) off
          deltaMin := dmin
          deltaMax := clampNat (u16 p (o + 2)) dmin 16000
          tolerance := clampNat (u16 p (o + 4)) 0 2000 }
      let moved := listMoved p 1 on || listMoved p (2 + 2 * on) off || outside (u16 p o) 0 16000
        || outside (u16 p (o + 2)) dmin 16000 || outside (u16 p (o + 4)) 0 2000
      answer (clampStatus moved) (le16 c.deltaMin ++ le16 c.deltaMax ++ le16 c.tolerance)
        (storeMotion { s.motionSettings with check := c } s)

/-- The effect of a taken SELF_CHECK (R157). -/
def takeSelfCheck (s : State) : State := portLeft (s.setMotion { s.motion with port := .checking, check := .start })

/-- The service of SELF_CHECK (R157). -/
def serveSelfCheck (p : List Byte) (s : State) : Served :=
  withLength p 0 s fun _ =>
    if s.motion.port = .streaming ∧ s.drop.state = .calm then answer .accepted [] (takeSelfCheck s)
    else refuse .badState s

/-- The service of GET_MOTION (R161). -/
def serveGetMotion (p : List Byte) (s : State) : Served :=
  withLength p 0 s fun _ => answer .ok (motionBody s) s

/-- SET_MOTION (R148). -/
def execSetMotion (tag : Byte) (payload : List Byte) (s : State) : Host.Outcome State Fault Refusal :=
  request 0x40 serveSetMotion tag payload s

/-- SET_SETUP_LIST (R149). -/
def execSetSetupList (tag : Byte) (payload : List Byte) (s : State) : Host.Outcome State Fault Refusal :=
  request 0x41 serveSetSetupList tag payload s

/-- SET_CHECK_LISTS (R156). -/
def execSetCheckLists (tag : Byte) (payload : List Byte) (s : State) : Host.Outcome State Fault Refusal :=
  request 0x42 serveSetCheckLists tag payload s

/-- SELF_CHECK (R157). -/
def execSelfCheck (tag : Byte) (payload : List Byte) (s : State) : Host.Outcome State Fault Refusal :=
  request 0x43 serveSelfCheck tag payload s

/-- GET_MOTION (R161). -/
def execGetMotion (tag : Byte) (payload : List Byte) (s : State) : Host.Outcome State Fault Refusal :=
  request 0x44 serveGetMotion tag payload s

/-! ### Starts -/

/-- The port enters SETUP or OFF as its enable setting says (R162). -/
def runSetupAtStart (s : State) : State := if s.motionScalars.enable then enterSetup false s else enterOff s

end Sys2Proof.Machine
end

