-- ==== Sys2Proof/Machine/AmbientLight.lean ====
section
/-! DEFINITION. The ambient front end (chapter 6): ranges and samples, validity and fallback, the filter, the lid, and
its commands. -/

namespace Sys2Proof.Machine

/-- The sample of a code in quarter-lux (R111). -/
def sampleOf (r : Range) (code : Nat) : Nat :=
  match r with | .low => code | .high => code * 128

/-- A filter seeded with a sample (R116). -/
def seedFilter (k sample : Nat) : Filter := { acc := sample * 2 ^ k, avg := sample }

/-- A filter updated with a sample (R116). -/
def updateFilter (k : Nat) (f : Filter) (sample : Nat) : Filter :=
  let acc := f.acc - f.acc / 2 ^ k + sample
  { acc := acc, avg := acc / 2 ^ k }

/-- The step test (R117). -/
def stepTest (avg sample : Nat) : Bool := decide (4 * avg + 4 < sample) || decide (4 * sample + 4 < avg)

/-- The range after the range test (R113). -/
def rangeNext (r : Range) (code : Nat) : Range :=
  match r with
  | .low => if 3800 ≤ code then .high else .low
  | .high => if code ≤ 24 then .low else .high

/-- Hands the filtered value to the backlight controller, if the filter is not empty (R119). -/
def handFiltered (seed : Bool) (s : State) : State :=
  match s.ambient.filter with | some f => takeAmbient f.avg seed s | none => s

/-- Puts the fallback in place (R115): HOLD keeps the filter; FIXED loads the fixed value and hands it as a seed. -/
def placeFallback (s : State) : State :=
  let c := s.settings.ambient
  match c.fallback with
  | .hold => s
  | .fixed => handFiltered true (s.setAmbient { s.ambient with filter := some (seedFilter c.k (c.fixedLux * 4)) })

/-- A change of the validity, which is posted (R114). -/
def setValidity (v : Validity) (s : State) : State := post .ambientValidity (s.setAmbient { s.ambient with validity := v })

/-- A move into INVALID (R114): seed pending becomes yes, and with the lid open the fallback is put in place. A
validity that is INVALID already is no change. -/
def becomeInvalid (s : State) : State :=
  if s.ambient.validity = .invalid then s
  else
    let s := setValidity .invalid (s.setAmbient { s.ambient with seedPending := true })
    if s.ambient.lidClosed then s else placeFallback s

/-- A sample enters the filter (R112, R116, R117) and the filtered value is handed on with its seed mark (R119). -/
def enterFilter (sample : Nat) (s : State) : State :=
  let k := s.settings.ambient.k
  let seed := fun (_ : Unit) =>
    handFiltered true (s.setAmbient { s.ambient with filter := some (seedFilter k sample), seedPending := false })
  match s.ambient.filter with
  | none => seed ()
  | some f =>
    if s.ambient.seedPending || stepTest f.avg sample then seed ()
    else handFiltered false (s.setAmbient { s.ambient with filter := some (updateFilter k f sample) })

/-- The range test (R113): a change of range sets one reading to be discarded. -/
def testRange (code : Nat) (s : State) : State :=
  let r := rangeNext s.ambient.range code
  if r = s.ambient.range then s else s.setAmbient { s.ambient with range := r, discard := true }

/-- Step 4 of R112: a valid reading makes the validity VALID, enters the filter and is tested for the range. -/
def validReading (code : Nat) (s : State) : State :=
  let sample := sampleOf s.ambient.range code
  testRange code (enterFilter sample (if s.ambient.validity = .valid then s else setValidity .valid s))

/-- A delivery of slot 5 (R112). -/
def ambientReading (code : Nat) (flagged : Bool) (s : State) : State :=
  if s.ambient.lidClosed then s
  else if s.ambient.discard then s.setAmbient { s.ambient with discard := false }
  else if flagged then becomeInvalid s
  else validReading code s

/-- A level of LID against the lid state (R120): a change pends, or is cancelled. -/
def lidLevel (level : Bool) (s : State) : State :=
  s.setAmbient { s.ambient with pendingLid :=
    if level = s.ambient.lidClosed then none else some (s.ambient.pendingLid.getD s.timeBase) }

/-- The lid state becomes CLOSED (R121). -/
def lidCloses (s : State) : State :=
  takeLid true (s.setAmbient { s.ambient with lidClosed := true, pendingLid := none })

/-- What follows an opening while the validity is INVALID (R121): FIXED is put in place, HOLD hands the frozen value. -/
def openedInvalid (s : State) : State :=
  match s.settings.ambient.fallback with
  | .fixed => placeFallback s
  | .hold => handFiltered true s

/-- The lid state becomes OPEN (R121); the backlight controller takes the opening before any value (R127). -/
def lidOpens (s : State) : State :=
  let s := takeLid false (s.setAmbient { s.ambient with lidClosed := false, pendingLid := none, seedPending := true })
  if s.ambient.validity = .invalid then openedInvalid s else s

/-- The pending lid change is taken (R120). -/
def lidChange (s : State) : State := if s.ambient.lidClosed then lidOpens s else lidCloses s

/-- The front end's start values (R123). `discard` is set when a requested start finds the range HIGH. -/
def startAmbient (discard : Bool) (s : State) : State :=
  s.setAmbient { Ambient.start with lidClosed := s.pins.lid, discard := discard }

/-! ### Commands -/

/-- LID_PIN_CHANGE (R120). -/
def execLidPinChange (asserted : Bool) (s : State) : Host.Outcome State Fault Refusal :=
  onPin { s.pins with lid := asserted } (lidLevel asserted) s

/-- LID_DEBOUNCE_EXPIRY (R120, R121). -/
def execLidDebounceExpiry (s : State) : Host.Outcome State Fault Refusal :=
  inRun (fun s => if reachedSince s s.ambient.pendingLid 30 then lidChange s else s) s

/-- A change of the filter shift reseeds a filter that is not empty for the shift now stored, and with the lid open hands
the value as a seed (R118). -/
def reseedFilter (s : State) : State :=
  let t := s.setAmbient { s.ambient with filter := s.ambient.filter.map fun f => seedFilter s.settings.ambient.k f.avg }
  if t.ambient.lidClosed then t else handFiltered true t

/-- The effect of a taken SET_AMBIENT (R122): a change of the fallback or the fixed lux under INVALID with the lid open
puts the fallback in place (R115), which sets the filter whole and hands it once where it is FIXED, also where k and the
fallback change and the fixed lux does not (DEDUCED, log 45); else a change of k reseeds the filter (R118). -/
def takeAmbientSettings (c : AmbientSettings) (s : State) : State :=
  let old := s.settings.ambient
  let s := s.setSettings { s.settings with ambient := c }
  let placed := decide (old.fallback ≠ c.fallback ∨ old.fixedLux ≠ c.fixedLux) && decide (s.ambient.validity = .invalid)
    && !s.ambient.lidClosed
  if placed && decide (c.fallback = .fixed) then placeFallback s
  else if old.k ≠ c.k then reseedFilter s
  else s

/-- The settings a SET_AMBIENT carries, clamped (R122). -/
def ambientSettingsOf (p : List Byte) (fallback : Fallback) : AmbientSettings :=
  { k := clampNat (u8 p 0) 0 6, fallback := fallback, fixedLux := clampNat (u32 p 2) 0 131040 }

/-- The service of SET_AMBIENT (R122). -/
def serveSetAmbient (p : List Byte) (s : State) : Served :=
  withLength p 6 s fun _ =>
    match fallback? (u8 p 1) with
    | none => refuse .badValue s
    | some fallback =>
      let c := ambientSettingsOf p fallback
      answer (clampStatus (outside (u8 p 0) 0 6 || outside (u32 p 2) 0 131040)) (le8 c.k ++ le32 c.fixedLux)
        (takeAmbientSettings c s)

/-- SET_AMBIENT (R122). -/
def execSetAmbient (tag : Byte) (payload : List Byte) (s : State) : Host.Outcome State Fault Refusal :=
  request 0x30 serveSetAmbient tag payload s

end Sys2Proof.Machine
end

