-- ==== Sys2Proof/Machine/Scanner.lean ====
section
/-! DEFINITION. The sensor scanner (chapter 2): the cycle, the end of a slot with its comparison and delivery, the
reference check, spot reads, and its commands. -/

namespace Sys2Proof.Machine

/-- The scanner's settings. -/
def State.scanSettings (s : State) : ScanSettings := s.settings.scan

/-- Replaces a slot's running values. -/
def setSlotRun (n : Fin 16) (r : SlotRun) (s : State) : State :=
  s.setScanner { s.scanner with slots := s.scanner.slots.set n r }

/-- Puts what the converter does in place. -/
def setConverter (v : Converter) (s : State) : State := s.setScanner { s.scanner with conv := v }

/-! ### The cycle (R34) -/

/-- Whether a slot is converted in a cycle: a system slot always (R32), a host slot when it and the host-scan switch are
on (R33). -/
def slotRuns (c : ScanSettings) (n : Fin 16) : Bool := decide (n.val < 8) || (c.slots[n].enabled && c.hostScan)

/-- The first slot from number `from_` on that is converted. -/
def slotFrom (c : ScanSettings) (from_ : Nat) : Option (Fin 16) :=
  (List.finRange 16).find? fun n => decide (from_ ≤ n.val) && slotRuns c n

/-- Starts a cycle with the period timer (R34). -/
def startCycle (s : State) : State :=
  s.setScanner { s.scanner with
    period := some { since := s.timeBase, length := s.scanSettings.period }
    cycleDue := false
    conv := match slotFrom s.scanSettings 0 with | some n => .slot n [] | none => .idle }

/-- No conversion is left to make: a cycle that is due starts, or the converter is idle (R34). -/
def restConverter (s : State) : State := if s.scanner.cycleDue then startCycle s else setConverter .idle s

/-- The cycle goes on with the first slot from number `from_` on, or ends. -/
def continueCycle (from_ : Nat) (s : State) : State :=
  match slotFrom s.scanSettings from_ with
  | some n => setConverter (.slot n []) s
  | none => restConverter s

/-- Slot `n` has ended or was abandoned: a spot read that waits comes first (R43), then the cycle goes on
(DEDUCED, log 31). -/
def afterSlot (n : Fin 16) (s : State) : State :=
  match s.scanner.spot with
  | some q =>
    let resume := if (slotFrom s.scanSettings (n.val + 1)).isSome then some n else none
    s.setScanner { s.scanner with spot := none, conv := .spot q.input q.divider resume }
  | none => continueCycle (n.val + 1) s

/-! ### The reference check (R44, R45) -/

/-- Whether a slot 7 result is outside (R44). -/
def referenceOutside (mv : Nat) : Bool := decide (mv < 980) || decide (1020 < mv)

/-- The change to DEGRADED, with the neighbours told (R44, R45). The power path is told first, then the front end, whose
fallback reaches the backlight controller before the unknown temperature does; R128 allows either order of those two
(DESIGN CHOICE, log 21). -/
def becomeDegraded (s : State) : State :=
  let s := s.setScanner { s.scanner with ref := .degraded, outsideCount := 0, insideCount := 0 }
  takeTemperature none (becomeInvalid (powerDegraded (post .limitDegraded s)))

/-- The change to NORMAL, with the neighbours told (R44, R45). -/
def becomeNormal (s : State) : State :=
  let s := s.setScanner { s.scanner with ref := .normal, outsideCount := 0, insideCount := 0 }
  powerRestored (post .limitRecovered s)

/-- The reference check of a slot 7 result (R44). -/
def referenceCheck (mv : Nat) (s : State) : State :=
  let c := s.scanner
  match c.ref, referenceOutside mv with
  | .normal, true =>
    if 3 ≤ c.outsideCount + 1 then becomeDegraded s else s.setScanner { c with outsideCount := c.outsideCount + 1 }
  | .normal, false => s.setScanner { c with outsideCount := 0 }
  | .degraded, false =>
    if 3 ≤ c.insideCount + 1 then becomeNormal s else s.setScanner { c with insideCount := c.insideCount + 1 }
  | .degraded, true => s.setScanner { c with insideCount := 0 }

/-- The DEGRADED flag of slot 7's own result follows the state after the check (R35). -/
def flagReference (s : State) : State := setSlotRun 7 { s.scanner.slots[7] with degraded := s.degraded } s

/-! ### The end of a slot (R35) -/

/-- Whether a change of limit state is a crossing (R38). -/
def isCrossing (old new : LimitState) : Bool := decide (old ≠ .unknown) && decide (old ≠ new)

/-- A slot's running values after a result (R29, R35, R37, R38). -/
def resultOf (c : SlotSettings) (old : SlotRun) (e : SlotEnd) (degraded : Bool) : SlotRun :=
  let mv := millivolts e.code c.divider
  let limit := limitNext c old.limit mv
  { code := e.code, mv := mv, valid := true, unsettled := e.unsettled, degraded := degraded, count := e.count,
    limit := limit, crossed := old.crossed || isCrossing old.limit limit }

/-- Delivers a system slot's result to its owner (R32, R35); a host slot's goes to none (R33). -/
def deliverResult (n : Fin 16) (r : SlotRun) (s : State) : State :=
  match n.val with
  | 0 => voltageReading .dc r.mv r.degraded s
  | 1 => voltageReading .a r.mv r.degraded s
  | 2 => voltageReading .b r.mv r.degraded s
  | 3 => currentReading .a (r.mv * 10) r.degraded s
  | 4 => currentReading .b (r.mv * 10) r.degraded s
  | 5 => ambientReading r.code r.degraded s
  | 6 => takeTemperature (panelTemperature s.scanSettings s.scanner.ref r.mv) s
  | 7 => flagReference (referenceCheck r.mv s)
  | _ => s

/-- The handling of a slot's end (R35). -/
def endSlot (n : Fin 16) (e : SlotEnd) (s : State) : State :=
  let old := s.scanner.slots[n]
  let r := resultOf s.scanSettings.slots[n] old e s.degraded
  deliverResult n r (postIf (isCrossing old.limit r.limit) (.limitCrossing n) (setSlotRun n r s))

/-- A slot conversion ends (R30, R31, R34, R35). -/
def endConversion (code : Nat) (s : State) : State :=
  match s.scanner.conv with
  | .slot n codes =>
    match slotOutcome s.scanSettings.slots[n] (code :: codes) with
    | some e => afterSlot n (endSlot n e s)
    | none => setConverter (.slot n (code :: codes)) s
  | _ => s

/-- The scan period timer expires (R34). -/
def periodExpires (s : State) : State :=
  if timerReached s s.scanner.period then
    match s.scanner.conv with
    | .idle => startCycle s
    | _ => s.setScanner { s.scanner with period := none, cycleDue := true }
  else s

/-- The SPOT_READ reply (R43). -/
def spotReply (code : Nat) (divider : Divider) (s : State) : List Byte :=
  Status.ok.code :: (le16 code ++ le16 (millivolts code divider) ++ [boolByte s.degraded])

/-- Adds the reply of the served request, which is ready now (R6). -/
def replyServed (payload : List Byte) (s : State) : State :=
  match s.link.queue with
  | r :: _ => addReply { kind := replyKind r.kind, tag := r.tag, payload := payload, busy := false } s
  | [] => s

/-- The spot conversion ends (R43). -/
def endSpot (code : Nat) (s : State) : State :=
  match s.scanner.conv with
  | .spot _ divider resume =>
    let s := replyServed (spotReply code divider s) s
    match resume with
    | some n => continueCycle (n.val + 1) s
    | none => restConverter s
  | _ => s

/-- The start values and the first cycle (R48). -/
def startScanner (s : State) : State := startCycle (s.setScanner .start)

/-! ### Conversion and timer commands -/

/-- SPOT_CONVERSION_END (R43). -/
def execSpotConversionEnd (code : BitVec 12) (s : State) : Host.Outcome State Fault Refusal :=
  inRun (endSpot code.toNat) s

/-- SCAN_PERIOD_EXPIRY (R34). -/
def execScanPeriodExpiry (s : State) : Host.Outcome State Fault Refusal := inRun periodExpires s

/-- CONVERSION_END (R28, R30, R31, R35). -/
def execConversionEnd (code : BitVec 12) (s : State) : Host.Outcome State Fault Refusal :=
  inRun (endConversion code.toNat) s

/-! ### Requests -/

/-- A slot number (R39, R40). -/
def slot? (n : Nat) : Option (Fin 16) := if h : n < 16 then some ⟨n, h⟩ else none

/-- An optional limit as SET_SLOT carries it, clamped to at least `lo` (R39). -/
def limitOf (p : List Byte) (i lo : Nat) : Option Nat := if flagAt p i then some (clampNat (u16 p (i + 1)) lo 20000) else none

/-- The settings a SET_SLOT carries, clamped (R39). -/
def slotSettingsOf (p : List Byte) (input : Input) (divider : Divider) (kind : ConvKind) : SlotSettings :=
  let low := limitOf p 8 0
  { enabled := flagAt p 1
    input := input
    divider := divider
    kind := kind
    tolerance := clampNat (u8 p 6) 1 64
    maximum := clampNat (u8 p 7) 2 16
    low := low
    high := limitOf p 11 (low.getD 0)
    hysteresis := clampNat (u16 p 14) 0 1000 }

/-- Whether SET_SLOT moved a scalar it carries to its bound. -/
def slotMoved (p : List Byte) : Bool :=
  outside (u8 p 6) 1 64 || outside (u8 p 7) 2 16 || (flagAt p 8 && outside (u16 p 9) 0 20000)
    || (flagAt p 11 && outside (u16 p 12) ((limitOf p 8 0).getD 0) 20000) || outside (u16 p 14) 0 1000

/-- Whether a slot takes these settings: a system slot only its fixed values (R32). -/
def slotAccepts (n : Fin 16) (c : SlotSettings) : Bool :=
  let f := ScanSettings.cold.slots[n]
  decide (8 ≤ n.val) || (c.enabled && c.input == f.input && c.divider == f.divider && c.kind == f.kind)

/-- Whether how a slot converts changes (R36, R38). -/
def conversionChanges (old new : SlotSettings) : Bool :=
  decide (old.input ≠ new.input) || decide (old.divider ≠ new.divider) || decide (old.kind ≠ new.kind)
    || decide (old.tolerance ≠ new.tolerance) || decide (old.maximum ≠ new.maximum)

/-- Whether a slot's limits change (R38). -/
def limitsChange (old new : SlotSettings) : Bool :=
  decide (old.low ≠ new.low) || decide (old.high ≠ new.high) || decide (old.hysteresis ≠ new.hysteresis)

/-- A slot's running values after new settings (R38). -/
def runAfterSettings (n : Fin 16) (old new : SlotSettings) (r : SlotRun) : SlotRun :=
  if decide (8 ≤ n.val) && conversionChanges old new then { SlotRun.start with crossed := r.crossed }
  else if limitsChange old new then { r with limit := .unknown }
  else r

/-- The slot being converted is abandoned when it is `n` and `b` holds, and the cycle goes on (R36). -/
def abandonIf (b : Bool) (n : Fin 16) (s : State) : State :=
  match s.scanner.conv with
  | .slot m _ => if b && m == n then afterSlot n s else s
  | _ => s

/-- Stores the scanner's settings. -/
def storeScan (c : ScanSettings) (s : State) : State := s.setSettings { s.settings with scan := c }

/-- The effect of a taken SET_SLOT (R36, R38) (a system slot too: DEDUCED, log 14). -/
def takeSlot (n : Fin 16) (new : SlotSettings) (s : State) : State :=
  let c := s.scanSettings
  let old := c.slots[n]
  let s := storeScan { c with slots := c.slots.set n new } s
  abandonIf (decide (old.enabled ≠ new.enabled) || conversionChanges old new) n
    (setSlotRun n (runAfterSettings n old new s.scanner.slots[n]) s)

/-- The stored values a SET_SLOT reply echoes (R39). -/
def slotEcho (c : SlotSettings) : List Byte :=
  le8 c.tolerance ++ le8 c.maximum ++ le16 (c.low.getD 0) ++ le16 (c.high.getD 0) ++ le16 c.hysteresis

/-- The service of SET_SLOT (R39). -/
def serveSetSlot (p : List Byte) (s : State) : Served :=
  withLength p 16 s fun _ =>
    match slot? (u8 p 0), input? (u8 p 2), divider? (u8 p 3), convKind? (u8 p 4) (u8 p 5) with
    | some n, some input, some divider, some kind =>
      let c := slotSettingsOf p input divider kind
      if isBool p 1 && isBool p 8 && isBool p 11 && slotAccepts n c then
        answer (clampStatus (slotMoved p)) (slotEcho c) (takeSlot n c s)
      else refuse .badValue s
    | _, _, _, _ => refuse .badValue s

/-- The service of GET_SLOT (R40). -/
def serveGetSlot (p : List Byte) (s : State) : Served :=
  withLength p 1 s fun _ =>
    match slot? (u8 p 0) with
    | some n => answer .ok (slotBody s n) s
    | none => refuse .badValue s

/-- The effect of a taken SET_SCAN (R36, R41): with the switch off a host slot being converted is abandoned. -/
def takeScan (period : Nat) (hostScan : Bool) (s : State) : State :=
  let s := storeScan { s.scanSettings with period := period, hostScan := hostScan } s
  match s.scanner.conv with
  | .slot n _ => abandonIf (decide (8 ≤ n.val) && !hostScan) n s
  | _ => s

/-- The service of SET_SCAN (R41). -/
def serveSetScan (p : List Byte) (s : State) : Served :=
  withLength p 3 s fun _ =>
    if isBool p 2 then
      let period := clampNat (u16 p 0) 2 100
      answer (clampStatus (outside (u16 p 0) 2 100)) (le16 period) (takeScan period (flagAt p 2) s)
    else refuse .badValue s

/-- The slots READ_RESULTS returns (R42). -/
def slotsFrom (first count : Nat) : List (Fin 16) :=
  (List.finRange 16).filter fun n => decide (first ≤ n.val) && decide (n.val < first + count)

/-- Clears a slot's crossed flag (R42). -/
def clearCrossed (s : State) (n : Fin 16) : State := setSlotRun n { s.scanner.slots[n] with crossed := false } s

/-- The service of READ_RESULTS (R42): the crossed flags are cleared after the entries have been taken. -/
def serveReadResults (p : List Byte) (s : State) : Served :=
  withLength p 2 s fun _ =>
    let first := clampNat (u8 p 0) 0 15
    let count := min (clampNat (u8 p 1) 1 7) (16 - first)
    let slots := slotsFrom first count
    answer (clampStatus (decide (first ≠ u8 p 0) || decide (count ≠ u8 p 1)))
      (le8 first ++ le8 count ++ slots.flatMap (resultEntry s)) (slots.foldl clearCrossed s)

/-- The service of SPOT_READ (R43): the conversion starts at once or waits for the slot in progress, and the reply becomes
ready when it ends. -/
def serveSpotRead (p : List Byte) (s : State) : Served :=
  withLength p 2 s fun _ =>
    match input? (u8 p 0), divider? (u8 p 1) with
    | some input, some divider =>
      match s.scanner.conv with
      | .idle => ⟨setConverter (.spot input divider none) s, none⟩
      | _ => ⟨s.setScanner { s.scanner with spot := some { input := input, divider := divider } }, none⟩
    | _, _ => refuse .badValue s

/-- The effect of a taken SET_TEMP_CAL (R47). -/
def takeCalibration (zeroMv gain : Nat) (s : State) : State :=
  let s := storeScan { s.scanSettings with zeroMv := zeroMv, gain := gain } s
  if s.scanner.slots[6].valid then
    takeTemperature (panelTemperature s.scanSettings s.scanner.ref s.scanner.slots[6].mv) s
  else s

/-- The service of SET_TEMP_CAL (R47). -/
def serveSetTempCal (p : List Byte) (s : State) : Served :=
  withLength p 4 s fun _ =>
    let zeroMv := clampNat (u16 p 0) 0 2000
    let gain := clampNat (u16 p 2) 100 4000
    answer (clampStatus (outside (u16 p 0) 0 2000 || outside (u16 p 2) 100 4000)) (le16 zeroMv ++ le16 gain)
      (takeCalibration zeroMv gain s)

/-- SET_SLOT (R39). -/
def execSetSlot (tag : Byte) (payload : List Byte) (s : State) : Host.Outcome State Fault Refusal :=
  request 0x10 serveSetSlot tag payload s

/-- GET_SLOT (R40). -/
def execGetSlot (tag : Byte) (payload : List Byte) (s : State) : Host.Outcome State Fault Refusal :=
  request 0x11 serveGetSlot tag payload s

/-- SET_SCAN (R41). -/
def execSetScan (tag : Byte) (payload : List Byte) (s : State) : Host.Outcome State Fault Refusal :=
  request 0x12 serveSetScan tag payload s

/-- READ_RESULTS (R42). -/
def execReadResults (tag : Byte) (payload : List Byte) (s : State) : Host.Outcome State Fault Refusal :=
  request 0x13 serveReadResults tag payload s

/-- SPOT_READ (R43). -/
def execSpotRead (tag : Byte) (payload : List Byte) (s : State) : Host.Outcome State Fault Refusal :=
  request 0x14 serveSpotRead tag payload s

/-- SET_TEMP_CAL (R47). -/
def execSetTempCal (tag : Byte) (payload : List Byte) (s : State) : Host.Outcome State Fault Refusal :=
  request 0x15 serveSetTempCal tag payload s

end Sys2Proof.Machine
end

