-- ==== Sys2Proof/Machine/Starts.lean ====
section
/-! DEFINITION. Supply states and starts (sections 1.5 and 1.6): power-up, the waits and checks, the start values of
every block, entry to RETAIN, the requested start, and the commands of the supplies and the time base. -/

namespace Sys2Proof.Machine

/-! ### Start values -/

/-- A bay lock after a cold or supply start: FREE, with its sense report at the level of LKS_x (R109). -/
def startLock (level : Bool) : BayLock := { BayLock.start with sense := level }

/-- Both bay locks after a cold or supply start (R109). -/
def startLocks (s : State) : State := s.setLocks ⟨startLock s.pins.lks.a, startLock s.pins.lks.b⟩

/-- The power condition of the source states a start gives (R72, R93). -/
def startCondition (s : State) : State := s.setPower { s.power with condition := s.power.conditionNow }

/-- Step 3 of R20: every block takes its start values, the motion port before its setup. -/
def startBlocks (s : State) : State :=
  startBacklight (startAmbient false (startLocks (startScanner (startCondition (startPower
    ((s.setLink .start).setMotion .start |>.setDrop .start))))))

/-- The start record of a cold or supply start (R20, R21, R26). -/
def startRecordOf (cold lost logicPass memoryPass : Bool) : StartRecord :=
  { cause := if cold then .cold else .supply
    retainLost := lost
    origin := if cold || lost then .defaults else .retained
    logicPass := logicPass
    memoryPass := memoryPass }

/-- Step 2 of R20: the store is kept if its check word matches and the start is a supply start; else it has its cold
values. -/
def startStore (cold lost : Bool) (st : Store) : Store := if cold || lost then .cold else st

/-- The checks of a cold or supply start end (R19, R20, R21): the store is verified, every block starts, START is
posted, and the motion port begins its setup, so that its notice comes after START (DESIGN CHOICE, log 47). -/
def completeStart (logicPass memoryPass : Bool) (s : State) : State :=
  let cold := s.coldMark
  let lost := !cold && !s.store.intact
  let t := (((s.setStore (startStore cold lost s.store)).setStartRec (startRecordOf cold lost logicPass memoryPass)).setColdMark
    false).setSupply .run
  runSetupAtStart (postIf lost .startRetainLost (post (if cold then .startCold else .startSupply) (startBlocks t)))

/-! ### RETAIN -/

/-- Everything that is lost in RETAIN, at its placeholder (R17; log 4): the link emptied, the outputs off, the reason
sets empty, every source ABSENT, and no transfer. -/
def stopBlocks (s : State) : State :=
  ((((((((s.setLink .start).setScanner .start).setPower .start).setLocks ⟨.start, .start⟩).setAmbient .start).setBacklight
    .start).setMotion .start).setDrop .start)

/-- Entry to RETAIN from RUN (R17): an open record is written TRUNCATED, and everything but the time base and the
retained store is lost. -/
def enterRetain (s : State) : State := (stopBlocks (storeRecord true s)).setSupply (.retain none)

/-! ### The requested start (R25) -/

/-- Step 3 of R25: DEFAULTS gives every setting its cold value and sets the origin; KEEP changes neither. A filter shift
that changes by it reseeds the filter and hands the value as a seed to the backlight controller (R118), which takes it with
the settings it then has, before step 4 gives both blocks their start values (DEDUCED, log 36). -/
def defaultSettings (opt : RestartOption) (s : State) : State :=
  match opt with
  | .keep => s
  | .defaults =>
    let t := (s.setSettings .cold).setStartRec { s.startRec with origin := .defaults }
    if s.settings.ambient.k ≠ t.settings.ambient.k then reseedFilter t else t

/-- The scanner's start in a requested start; the power path learns of a change from DEGRADED to NORMAL (R48). -/
def restartScanner (s : State) : State :=
  let t := startScanner s
  if s.degraded then powerRestored t else t

/-- The motion port's values in a requested start, before it runs the setup list (R162): the transfer in progress is cut
off, and an off-list that a check in progress still owes is written. R162 does not say which off-list that is under
DEFAULTS; it is the one held before the settings took their defaults, `check` (DESIGN CHOICE, log 37). -/
def restartMotion (s : State) (check : CheckSettings) : State :=
  let due := decide (s.motion.port = .checking) && offListDue s.motion
  let t := s.setMotion .start
  if due then beginList .abortOff check.offList t else t

/-- Does `f` with SOLE judged by the value `b` of lock_sole; the stored setting is as it was afterwards. -/
def underLockSole (b : Bool) (f : State → State) (s : State) : State :=
  let set := fun (b : Bool) (s : State) => setPowerSettings { s.settings.power with lockSole := b } s
  set s.settings.power.lockSole (f (set b s))

/-- Step 4 of R25 for the drop detector (R178). Every setting has its default by then, and the evaluation that the contact
guard's turning off calls uses them; only the recomputing of the SOLE reasons, which is an effect of a changed lock_sole,
comes after START (R75), so SOLE is judged by the lock_sole of `old` until then (DEDUCED, log 12). -/
def restartDrop (opt : RestartOption) (old : PowerSettings) (s : State) : State :=
  match opt with
  | .keep => resetDrop s
  | .defaults => underLockSole old.lockSole resetDrop s

/-- What a requested start does to the power path after START (R70, R75): under DEFAULTS, in one act, the effects of
settings that have changed from `old`, for the sources, the policy and lock_sole (DEDUCED, log 12). An overlap time that
has changed is in force for a transfer in flight whose overlap has not begun (DESIGN CHOICE, log 38). -/
def restartPower (opt : RestartOption) (old : PowerSettings) (s : State) : State :=
  match opt with
  | .keep => s
  | .defaults =>
    let new := s.settings.power
    actPower (decide (old.policy ≠ new.policy))
      (onSources ⟨true, true, true⟩ fun x => applySource (old.sources.get x) (new.sources.get x) x) s

/-- A requested start (R25), its five steps in their order. A check's off-list is the one held before DEFAULTS
(DESIGN CHOICE, log 37). -/
def requestedStart (opt : RestartOption) (s : State) : State :=
  let old := s.settings
  let discard := decide (s.ambient.range = .high)
  let t := defaultSettings opt (writeRecord true (s.setLink .start))
  let t := startBacklight (startAmbient discard (restartScanner t))
  let t := restartDrop opt old.power (restartMotion t old.motion.check)
  let t := t.setStartRec { t.startRec with cause := .requested, retainLost := false }
  restartPower opt old.power (runSetupAtStart (post .startRequested t))

/-! ### Commands -/

/-- POWER_UP (R19): the retained state is set up, and the wait of R18 starts at once if VAON is above 6.0 V. -/
def execPowerUp (vaonAbove6V : Bool) (s : State) : Host.Outcome State Fault Refusal :=
  match s.supply with
  | .unpowered =>
    .next ((((s.setStore .cold).setTimeBase 0).setColdMark true).setSupply
      (.retain (if vaonAbove6V then some 0 else none)))
  | _ => .next s

/-- VAON_RISE_ABOVE_6V (R18): in RETAIN the wait begins. -/
def execVaonRiseAbove6V (s : State) : Host.Outcome State Fault Refusal :=
  match s.supply with
  | .retain none => .next (s.setSupply (.retain (some s.timeBase)))
  | _ => .next s

/-- VAON_FALL_TO_6V (R18): in RETAIN the wait is over; in RUN and during the checks nothing follows. -/
def execVaonFallTo6V (s : State) : Host.Outcome State Fault Refusal :=
  match s.supply with
  | .retain _ => .next (s.setSupply (.retain none))
  | _ => .next s

/-- VAON_QUALIFY_EXPIRY (R18, R20): 20 ms above 6.0 V, and the start-up checks begin. -/
def execVaonQualifyExpiry (s : State) : Host.Outcome State Fault Refusal :=
  match s.supply with
  | .retain (some since) => if timeReached s since 20 then .next (s.setSupply (.checks s.timeBase)) else .next s
  | _ => .next s

/-- STARTUP_CHECKS_END (R20, R21): the 8 ms checks end, and the start completes. -/
def execStartupChecksEnd (logicPass memoryPass : Bool) (s : State) : Host.Outcome State Fault Refusal :=
  match s.supply with
  | .checks since => if timeReached s since 8 then .next (finish (completeStart logicPass memoryPass s)) else .next s
  | _ => .next s

/-- ENTER_RETAIN (R17, R18): from RUN the part enters RETAIN; during the checks the start is abandoned, with the earlier
check results in place (DEDUCED, log 26). -/
def execEnterRetain (s : State) : Host.Outcome State Fault Refusal :=
  match s.supply with
  | .run => .next (enterRetain s)
  | .checks _ => .next (s.setSupply (.retain none))
  | .retain _ => .next (s.setSupply (.retain none))
  | .unpowered => .next s

/-- TIME_BASE_TICK (R23): the counter counts whenever the part has power, and wraps. -/
def execTimeBaseTick (s : State) : Host.Outcome State Fault Refusal :=
  match s.supply with
  | .unpowered => .next s
  | _ => .next (s.setTimeBase (s.timeBase + 1))

/-- ALL_POWER_LOST (R19): the retained store, the time base and the cold mark are lost with the rest (log 4). -/
def execAllPowerLost (s : State) : Host.Outcome State Fault Refusal :=
  match s.supply with
  | .retain _ => .next ((((s.setStore .cold).setTimeBase 0).setColdMark false).setSupply .unpowered)
  | _ => .next s

/-- RETAIN_STORE_CORRUPTION (R22): in RETAIN the check word no longer matches (the word it then holds is free: log 2). -/
def execRetainStoreCorruption (s : State) : Host.Outcome State Fault Refusal :=
  match s.supply with
  | .retain _ => .next (takeFree (s.setStore (s.store.corrupted s.freeCount)))
  | _ => .next s

end Sys2Proof.Machine
end

