-- ==== Sys2Proof/WellFormed.lean ====
section
/-! DEFINITION. Which commands can reach the part at all: the shape checks on a request and on a burst. -/

namespace Sys2Proof

/-- A request as it travels: its TAG and its payload. -/
structure RequestShape where
  tag : Byte
  payload : List Byte
deriving DecidableEq, Repr

/-- The KIND codes of the request catalogue (section 1.3). -/
def catalogue : List Byte :=
  [0x01, 0x02, 0x03, 0x04, 0x10, 0x11, 0x12, 0x13, 0x14, 0x15, 0x20, 0x21, 0x22, 0x23, 0x24, 0x28,
   0x29, 0x2A, 0x30, 0x31, 0x32, 0x33, 0x34, 0x35, 0x40, 0x41, 0x42, 0x43, 0x44, 0x50, 0x51]

/-- The request a command carries, if it is a request. -/
def Instr.request? : Instr → Option RequestShape
  | .identify t p => some ⟨t, p⟩
  | .restart t p => some ⟨t, p⟩
  | .quiet t p => some ⟨t, p⟩
  | .talk t p => some ⟨t, p⟩
  | .setSlot t p => some ⟨t, p⟩
  | .getSlot t p => some ⟨t, p⟩
  | .setScan t p => some ⟨t, p⟩
  | .readResults t p => some ⟨t, p⟩
  | .spotRead t p => some ⟨t, p⟩
  | .setTempCal t p => some ⟨t, p⟩
  | .setSource t p => some ⟨t, p⟩
  | .getSource t p => some ⟨t, p⟩
  | .clearFault t p => some ⟨t, p⟩
  | .setPolicy t p => some ⟨t, p⟩
  | .getPower t p => some ⟨t, p⟩
  | .setHostLock t p => some ⟨t, p⟩
  | .getLocks t p => some ⟨t, p⟩
  | .retryLock t p => some ⟨t, p⟩
  | .setAmbient t p => some ⟨t, p⟩
  | .setCurve t p => some ⟨t, p⟩
  | .getCurve t p => some ⟨t, p⟩
  | .setBacklight t p => some ⟨t, p⟩
  | .getBacklight t p => some ⟨t, p⟩
  | .setCaps t p => some ⟨t, p⟩
  | .setMotion t p => some ⟨t, p⟩
  | .setSetupList t p => some ⟨t, p⟩
  | .setCheckLists t p => some ⟨t, p⟩
  | .selfCheck t p => some ⟨t, p⟩
  | .getMotion t p => some ⟨t, p⟩
  | .readLog t p => some ⟨t, p⟩
  | .clearLog t p => some ⟨t, p⟩
  | .unknownKindRequest _ t p => some ⟨t, p⟩
  | .powerUp _ => none
  | .vaonRiseAbove6V => none
  | .vaonFallTo6V => none
  | .vaonQualifyExpiry => none
  | .startupChecksEnd _ _ => none
  | .enterRetain => none
  | .timeBaseTick => none
  | .lrxByte _ _ => none
  | .gapTimeout => none
  | .ltxFrameSent => none
  | .spotConversionEnd _ => none
  | .scanPeriodExpiry => none
  | .conversionEnd _ => none
  | .presPinChange _ _ => none
  | .presenceHoldExpiry _ => none
  | .qualifyExpiry _ => none
  | .standbyViolationExpiry _ => none
  | .windowFaultExpiry _ => none
  | .faultPinAssert _ => none
  | .goodConfirm _ => none
  | .switchWatchExpiry _ => none
  | .latchPinChange _ _ => none
  | .latchDebounceExpiry _ => none
  | .overlapExpiry => none
  | .lksPinChange _ _ => none
  | .senseDebounceExpiry _ => none
  | .lockWindowExpiry _ => none
  | .lidPinChange _ => none
  | .lidDebounceExpiry => none
  | .rampTick => none
  | .setupEntryEnd _ => none
  | .setupWaitExpiry => none
  | .retryExpiry => none
  | .mintAssert => none
  | .stallExpiry => none
  | .burstEnd _ => none
  | .checkListWriteEnd => none
  | .allPowerLost => none
  | .retainStoreCorruption => none
  | .faultPinRelease _ => none
  | .goodRelease _ => none
  | .mintRelease => none

/-- A request frame that is handled as a request has a TAG other than 0 (R5) and a payload of 0 to 60 bytes (R3). -/
def RequestShape.wellFormed (r : RequestShape) : Bool :=
  r.tag != 0 && decide (r.payload.length ≤ 60)

/-- A burst reads 6 bytes for each of 1 to 16 samples (R147, R153). -/
def burstShape (bytes : List Byte) : Bool :=
  decide (bytes.length % 6 = 0) && decide (6 ≤ bytes.length) && decide (bytes.length ≤ 96)

/-- The checks on a command taken by itself: the shape of a request, a KIND outside the catalogue for
UNKNOWN_KIND_REQUEST, and the length of a burst. -/
def Instr.wellFormed (i : Instr) : Bool :=
  (match i.request? with | some r => r.wellFormed | none => true) &&
  (match i with
   | .unknownKindRequest kind _ _ => !catalogue.contains kind
   | .burstEnd bytes => burstShape bytes
   | _ => true)

end Sys2Proof
end

