-- ==== Sys2Proof/Machine/LinkPort.lean ====
section
/-! DEFINITION. The control link's own commands (chapter 1): the receiver on LRX, the transmitter on LTX, and the
requests IDENTIFY, RESTART, QUIET and TALK. -/

namespace Sys2Proof.Machine

/-! ### The receiver (R4) -/

/-- Puts the receiver in place. -/
def setReceiver (r : Receiver) (s : State) : State := s.setLink { s.link with rx := r }

/-- A fault on the receiver: the frame is discarded, hunting resumes, and LINK is posted (R4). -/
def linkFault (c : Cause) (s : State) : State := post c (setReceiver .hunt s)

/-- A frame whose CRC matches is delivered; its first byte after LEN is KIND and its second TAG (R3, R5). -/
def deliverFrame (got : List Byte) (s : State) : State := deliver (byteAt got 0) (byteAt got 1) (got.drop 2) s

/-- The last expected byte of a frame has arrived: the CRC is checked (R3, R4). -/
def endFrame (len : Byte) (got : List Byte) (crc : Byte) (s : State) : State :=
  if crc8 (len :: got) = crc then deliverFrame got (setReceiver .hunt s) else linkFault .linkCrc s

/-- A byte taken by the receiver (R4). -/
def takeByte (byte : Byte) (s : State) : State :=
  match s.link.rx with
  | .hunt => if byte = 0xC3 then setReceiver (.header s.timeBase) s else s
  | .header _ =>
    if 2 ≤ byte.toNat ∧ byte.toNat ≤ 62 then setReceiver (.body s.timeBase byte []) s else linkFault .linkLength s
  | .body _ len got =>
    if got.length < len.toNat then setReceiver (.body s.timeBase len (got ++ [byte])) s else endFrame len got byte s

/-- LRX_BYTE (R4): a byte whose stop bit is missing is dropped (DEDUCED, log 22). -/
def execLrxByte (byte : Byte) (stopBit : Bool) (s : State) : Host.Outcome State Fault Refusal :=
  inRun (if stopBit then takeByte byte else id) s

/-- The end of the last byte of a frame in progress. -/
def Receiver.lastByte : Receiver → Option Moment
  | .hunt => none
  | .header since => some since
  | .body since _ _ => some since

/-- GAP_TIMEOUT (R4). -/
def execGapTimeout (s : State) : Host.Outcome State Fault Refusal :=
  inRun (fun s => if reachedSince s s.link.rx.lastByte 2 then linkFault .linkGap s else s) s

/-! ### The transmitter -/

/-- The served request leaves the queue (R6); a RESTART that was taken takes effect now (R24). -/
def requestDone (s : State) : State :=
  let t := s.setLink { s.link with queue := s.link.queue.tail }
  match s.link.restart with
  | some opt => requestedStart opt t
  | none => t

/-- LTX has sent its frame: a reply leaves the reply list (R7), and its request the queue (R6). -/
def frameSent (s : State) : State :=
  match s.link.ltx with
  | none => s
  | some (.notice _) => s.setLink { s.link with ltx := none }
  | some (.reply r) =>
    let t := s.setLink { s.link with ltx := none, replies := s.link.replies.tail }
    if r.busy then t else requestDone t

/-- LTX_FRAME_SENT (R6, R7, R10). -/
def execLtxFrameSent (s : State) : Host.Outcome State Fault Refusal := inRun frameSent s

/-! ### Requests -/

/-- The service of IDENTIFY (R26). -/
def serveIdentify (p : List Byte) (s : State) : Served :=
  withLength p 0 s fun _ => answer .ok (identifyBody s) s

/-- The service of RESTART (R24). -/
def serveRestart (p : List Byte) (s : State) : Served :=
  withLength p 1 s fun _ =>
    match restartOption? (u8 p 0) with
    | none => refuse .badValue s
    | some opt =>
      if s.power.transfer.isSome then refuse .badState s
      else answer .ok [] (s.setLink { s.link with restart := some opt })

/-- Sets the link mode (R15). -/
def setMode (m : LinkMode) (s : State) : State := s.setLink { s.link with mode := m }

/-- The service of QUIET (R15). -/
def serveQuiet (p : List Byte) (s : State) : Served :=
  withLength p 0 s fun _ => answer .ok [] (setMode .quiet s)

/-- The service of TALK (R15). -/
def serveTalk (p : List Byte) (s : State) : Served :=
  withLength p 0 s fun _ => answer .ok [] (setMode .talk s)

/-- A KIND that names no request is answered BAD_KIND (R8). -/
def serveUnknown (_ : List Byte) (s : State) : Served := refuse .badKind s

/-- IDENTIFY (R26). -/
def execIdentify (tag : Byte) (payload : List Byte) (s : State) : Host.Outcome State Fault Refusal :=
  request 0x01 serveIdentify tag payload s

/-- RESTART (R24). -/
def execRestart (tag : Byte) (payload : List Byte) (s : State) : Host.Outcome State Fault Refusal :=
  request 0x02 serveRestart tag payload s

/-- QUIET (R15). -/
def execQuiet (tag : Byte) (payload : List Byte) (s : State) : Host.Outcome State Fault Refusal :=
  request 0x03 serveQuiet tag payload s

/-- TALK (R15). -/
def execTalk (tag : Byte) (payload : List Byte) (s : State) : Host.Outcome State Fault Refusal :=
  request 0x04 serveTalk tag payload s

/-- UNKNOWN_KIND_REQUEST (R8): with a KIND of the catalogue the command is not this event (log 3). -/
def execUnknownKindRequest (kind tag : Byte) (payload : List Byte) (s : State) : Host.Outcome State Fault Refusal :=
  if catalogue.contains kind then .next s else request kind serveUnknown tag payload s

end Sys2Proof.Machine
end

