-- ==== Sys2Proof/Machine/Dispatch.lean ====
section
/-! DEFINITION. Which meaning each command has: one arm per command, one direct call per arm. -/

namespace Sys2Proof.Machine

/-- The effect of a command on everything but the queue of waiting commands. -/
def exec (i : Instr) (s : State) : Host.Outcome State Fault Refusal :=
  match i with
  | .powerUp vaonAbove6V => Sys2Proof.Machine.execPowerUp vaonAbove6V s
  | .vaonRiseAbove6V => Sys2Proof.Machine.execVaonRiseAbove6V s
  | .vaonFallTo6V => Sys2Proof.Machine.execVaonFallTo6V s
  | .vaonQualifyExpiry => Sys2Proof.Machine.execVaonQualifyExpiry s
  | .startupChecksEnd logicPass memoryPass => Sys2Proof.Machine.execStartupChecksEnd logicPass memoryPass s
  | .enterRetain => Sys2Proof.Machine.execEnterRetain s
  | .timeBaseTick => Sys2Proof.Machine.execTimeBaseTick s
  | .lrxByte byte stopBit => Sys2Proof.Machine.execLrxByte byte stopBit s
  | .gapTimeout => Sys2Proof.Machine.execGapTimeout s
  | .ltxFrameSent => Sys2Proof.Machine.execLtxFrameSent s
  | .identify tag payload => Sys2Proof.Machine.execIdentify tag payload s
  | .restart tag payload => Sys2Proof.Machine.execRestart tag payload s
  | .quiet tag payload => Sys2Proof.Machine.execQuiet tag payload s
  | .talk tag payload => Sys2Proof.Machine.execTalk tag payload s
  | .setSlot tag payload => Sys2Proof.Machine.execSetSlot tag payload s
  | .getSlot tag payload => Sys2Proof.Machine.execGetSlot tag payload s
  | .setScan tag payload => Sys2Proof.Machine.execSetScan tag payload s
  | .readResults tag payload => Sys2Proof.Machine.execReadResults tag payload s
  | .spotRead tag payload => Sys2Proof.Machine.execSpotRead tag payload s
  | .spotConversionEnd code => Sys2Proof.Machine.execSpotConversionEnd code s
  | .setTempCal tag payload => Sys2Proof.Machine.execSetTempCal tag payload s
  | .scanPeriodExpiry => Sys2Proof.Machine.execScanPeriodExpiry s
  | .conversionEnd code => Sys2Proof.Machine.execConversionEnd code s
  | .presPinChange src asserted => Sys2Proof.Machine.execPresPinChange src asserted s
  | .presenceHoldExpiry src => Sys2Proof.Machine.execPresenceHoldExpiry src s
  | .qualifyExpiry src => Sys2Proof.Machine.execQualifyExpiry src s
  | .standbyViolationExpiry src => Sys2Proof.Machine.execStandbyViolationExpiry src s
  | .windowFaultExpiry src => Sys2Proof.Machine.execWindowFaultExpiry src s
  | .faultPinAssert line => Sys2Proof.Machine.execFaultPinAssert line s
  | .goodConfirm src => Sys2Proof.Machine.execGoodConfirm src s
  | .switchWatchExpiry src => Sys2Proof.Machine.execSwitchWatchExpiry src s
  | .latchPinChange bay opened => Sys2Proof.Machine.execLatchPinChange bay opened s
  | .latchDebounceExpiry bay => Sys2Proof.Machine.execLatchDebounceExpiry bay s
  | .overlapExpiry => Sys2Proof.Machine.execOverlapExpiry s
  | .lksPinChange bay asserted => Sys2Proof.Machine.execLksPinChange bay asserted s
  | .senseDebounceExpiry bay => Sys2Proof.Machine.execSenseDebounceExpiry bay s
  | .lockWindowExpiry bay => Sys2Proof.Machine.execLockWindowExpiry bay s
  | .setSource tag payload => Sys2Proof.Machine.execSetSource tag payload s
  | .getSource tag payload => Sys2Proof.Machine.execGetSource tag payload s
  | .clearFault tag payload => Sys2Proof.Machine.execClearFault tag payload s
  | .setPolicy tag payload => Sys2Proof.Machine.execSetPolicy tag payload s
  | .getPower tag payload => Sys2Proof.Machine.execGetPower tag payload s
  | .setHostLock tag payload => Sys2Proof.Machine.execSetHostLock tag payload s
  | .getLocks tag payload => Sys2Proof.Machine.execGetLocks tag payload s
  | .retryLock tag payload => Sys2Proof.Machine.execRetryLock tag payload s
  | .setAmbient tag payload => Sys2Proof.Machine.execSetAmbient tag payload s
  | .lidPinChange asserted => Sys2Proof.Machine.execLidPinChange asserted s
  | .lidDebounceExpiry => Sys2Proof.Machine.execLidDebounceExpiry s
  | .rampTick => Sys2Proof.Machine.execRampTick s
  | .setCurve tag payload => Sys2Proof.Machine.execSetCurve tag payload s
  | .getCurve tag payload => Sys2Proof.Machine.execGetCurve tag payload s
  | .setBacklight tag payload => Sys2Proof.Machine.execSetBacklight tag payload s
  | .getBacklight tag payload => Sys2Proof.Machine.execGetBacklight tag payload s
  | .setCaps tag payload => Sys2Proof.Machine.execSetCaps tag payload s
  | .setMotion tag payload => Sys2Proof.Machine.execSetMotion tag payload s
  | .setSetupList tag payload => Sys2Proof.Machine.execSetSetupList tag payload s
  | .setCheckLists tag payload => Sys2Proof.Machine.execSetCheckLists tag payload s
  | .selfCheck tag payload => Sys2Proof.Machine.execSelfCheck tag payload s
  | .getMotion tag payload => Sys2Proof.Machine.execGetMotion tag payload s
  | .setupEntryEnd readByte => Sys2Proof.Machine.execSetupEntryEnd readByte s
  | .setupWaitExpiry => Sys2Proof.Machine.execSetupWaitExpiry s
  | .retryExpiry => Sys2Proof.Machine.execRetryExpiry s
  | .mintAssert => Sys2Proof.Machine.execMintAssert s
  | .stallExpiry => Sys2Proof.Machine.execStallExpiry s
  | .burstEnd bytes => Sys2Proof.Machine.execBurstEnd bytes s
  | .checkListWriteEnd => Sys2Proof.Machine.execCheckListWriteEnd s
  | .readLog tag payload => Sys2Proof.Machine.execReadLog tag payload s
  | .clearLog tag payload => Sys2Proof.Machine.execClearLog tag payload s
  | .allPowerLost => Sys2Proof.Machine.execAllPowerLost s
  | .retainStoreCorruption => Sys2Proof.Machine.execRetainStoreCorruption s
  | .faultPinRelease line => Sys2Proof.Machine.execFaultPinRelease line s
  | .goodRelease src => Sys2Proof.Machine.execGoodRelease src s
  | .mintRelease => Sys2Proof.Machine.execMintRelease s
  | .unknownKindRequest kind tag payload => Sys2Proof.Machine.execUnknownKindRequest kind tag payload s

end Sys2Proof.Machine
end

