-- ==== Sys2Proof/Safety.lean ====
section
/-! DEFINITION. What counts as a sound state, and the terms claims are stated in: the invariants of each block, the part
ready for a request, the answer to one, and what an act may change. -/

namespace Sys2Proof.Machine

/-! ### The retained store -/

/-- The log holds at most 32 records, oldest first, with consecutive seqs from 1 up that end at next_seq − 1 (R179). -/
abbrev LogWf (st : Store) : Prop :=
  st.log.length ≤ 32 ∧ st.log.length < st.nextSeq ∧ st.nextSeq ≤ 4294967295 ∧
    st.log.map (·.seq) = (List.range st.log.length).map (fun i => st.nextSeq - st.log.length + i)

/-- `v` lies in a range. -/
abbrev Within (lo v hi : Nat) : Prop := lo ≤ v ∧ v ≤ hi

/-- `v` lies in a signed range. -/
abbrev WithinInt (lo v hi : Int) : Prop := lo ≤ v ∧ v ≤ hi

/-- An optional limit lies in its range, if it is present (R29). -/
abbrev LimitFits (lo : Nat) (v : Option Nat) : Prop := Within lo (v.getD lo) 20000

/-- A slot's settings lie in the ranges of R29, and a system slot has its fixed values (R32). -/
abbrev SlotFits (n : Fin 16) (c : SlotSettings) : Prop :=
  Within 1 c.tolerance 64 ∧ Within 2 c.maximum 16 ∧ LimitFits 0 c.low ∧ LimitFits (c.low.getD 0) c.high ∧
    c.hysteresis ≤ 1000 ∧ slotAccepts n c = true

/-- The scanner's settings lie in their ranges (R29, R41, R47). -/
abbrev ScanFits (c : ScanSettings) : Prop :=
  (∀ n ∈ List.finRange 16, SlotFits n c.slots[n]) ∧ Within 2 c.period 100 ∧ c.zeroMv ≤ 2000 ∧ Within 100 c.gain 4000

/-- A source's settings lie in their ranges (R49). -/
abbrev SourceFits (c : SourceSettings) : Prop :=
  c.threshold ≤ 20000 ∧ c.windowLow ≤ 30000 ∧ Within c.windowLow c.windowHigh 30000 ∧ Within 50 c.qualifyTime 2000 ∧
    Within 10 c.violationTime 200

/-- A bay's settings lie in their ranges (R49). -/
abbrev BayFits (c : BaySettings) : Prop :=
  Within 1000 c.overcurrent 10000 ∧ c.lowThreshold ≤ 20000 ∧ c.rideThrough ≤ 50

/-- The power path settings lie in their ranges, and DC has no fault select CURRENT (R49, R69, R75). -/
abbrev PowerFits (c : PowerSettings) : Prop :=
  SourceFits c.sources.dc ∧ SourceFits c.sources.a ∧ SourceFits c.sources.b ∧ BayFits c.bays.a ∧ BayFits c.bays.b ∧
    Within 1 c.overlap 20 ∧ c.sources.dc.faultSelect ≠ .current

/-- The ambient settings lie in their ranges (R110). -/
abbrev AmbientFits (c : AmbientSettings) : Prop := c.k ≤ 6 ∧ c.fixedLux ≤ 131040

/-- The backlight settings lie in their ranges, with Dmax above Dmin, Ts below Te and a rising curve of 2 to 12 points
(R124, R125). -/
abbrev BacklightFits (c : BacklightSettings) : Prop :=
  c.scalars.manual ≤ 1000 ∧ WithinInt (-300) c.scalars.bias 300 ∧ c.scalars.hysteresis ≤ 100 ∧
    Within 1 c.scalars.slew 50 ∧ Within 1 c.scalars.dmin 4094 ∧ Within (c.scalars.dmin + 1) c.scalars.dmax 4095 ∧
    WithinInt (-400) c.scalars.ts 1500 ∧ WithinInt (-400) c.scalars.te 1500 ∧ c.scalars.ts < c.scalars.te ∧
    c.scalars.cmin ≤ 1000 ∧ c.scalars.unknownCap ≤ 1000 ∧
    Within 2 c.curve.length 12 ∧ luxRise c.curve = true ∧ (∀ q ∈ c.curve, q.lux ≤ 131040 ∧ q.level ≤ 1000) ∧
    c.caps.full ≤ 1000 ∧ c.caps.single ≤ 1000 ∧ c.caps.low ≤ 1000 ∧ c.caps.transfer ≤ 1000 ∧ c.caps.noSupply ≤ 1000

/-- An entry of the setup list lies in its ranges (R149). -/
def entryFits : SetupEntry → Bool
  | .write address _ => decide (address.toNat ≤ 0x7F)
  | .check address _ _ => decide (address.toNat ≤ 0x7F)
  | .wait ms => decide (Within 1 ms 100)

/-- The motion settings lie in their ranges (R147, R149, R156). -/
abbrev MotionFits (c : MotionSettings) : Prop :=
  Within 1 c.scalars.w 16 ∧ Within 1 c.scalars.scale 4096 ∧ c.scalars.address.toNat ≤ 0x7F ∧
    Within 100 c.scalars.tff 1000 ∧ Within 1500 c.scalars.timp 16000 ∧ Within 20 c.scalars.fallConfirm 200 ∧
    Within 8 c.scalars.returnTime 100 ∧ Within 10 c.scalars.impactQuiet 200 ∧ Within 100 c.scalars.guardTime 2000 ∧
    Within 200 c.scalars.maxFall 3000 ∧ c.setupList.length ≤ 12 ∧ (∀ e ∈ c.setupList, entryFits e = true) ∧
    c.check.onList.length ≤ 4 ∧ c.check.offList.length ≤ 4 ∧ (∀ e ∈ c.check.onList, e.address.toNat ≤ 0x7F) ∧
    (∀ e ∈ c.check.offList, e.address.toNat ≤ 0x7F) ∧ Within c.check.deltaMin c.check.deltaMax 16000 ∧
    c.check.tolerance ≤ 2000

/-- Every stored setting lies in its range. -/
abbrev SettingsWf (c : Settings) : Prop :=
  ScanFits c.scan ∧ PowerFits c.power ∧ AmbientFits c.ambient ∧ BacklightFits c.backlight ∧ MotionFits c.motion

/-! ### The link -/

/-- Whether a spot read waits or converts, so that the served request has no reply yet (R43). -/
def spotRuns (c : Scanner) : Bool :=
  c.spot.isSome || (match c.conv with | .spot _ _ _ => true | _ => false)

/-- Whether a slot of the cycle is being converted. -/
def Converter.inSlot : Converter → Bool
  | .slot _ _ => true
  | _ => false

/-- How many replies that are not BUSY wait in the list (R7). -/
def ownReplies (l : List Reply) : Nat := (l.filter fun r => !r.busy).length

/-- Whether the head of the request queue is served (R6). -/
def headServed (q : List Request) : Bool := (q.head?.map (·.served)).getD false

/-- Whether a reply on LTX is the one at the head of the reply list (R7, R10). -/
def sendsHead (l : Link) : Bool :=
  match l.ltx with
  | some (.reply r) => l.replies.head? == some r
  | _ => true

/-- The link's lists (R5 to R7, R13): at most two requests, of which only the first may be served; at most three BUSY
replies, and one other exactly when the served request has its reply; at most one notice for each key; and LTX sends
the head of the reply list. -/
abbrev LinkWf (s : State) : Prop :=
  s.link.queue.length ≤ 2 ∧ (∀ r ∈ s.link.queue.tail, r.served = false) ∧ busyCount s.link.replies ≤ 3 ∧
    ownReplies s.link.replies = (headServed s.link.queue && !spotRuns s.scanner).toNat ∧
    (spotRuns s.scanner = true → headServed s.link.queue = true) ∧
    (s.scanner.spot.isSome = true → s.scanner.conv.inSlot = true) ∧
    (s.link.restart.isSome = true → ownReplies s.link.replies = 1) ∧
    (s.link.notices.map (·.key)).Nodup ∧ sendsHead s.link = true

/-- WAKE_N is asserted exactly in QUIET with an URGENT entry queued, and is released outside RUN (R16, R17). -/
abbrev WakeWf (s : State) : Prop :=
  s.link.wakeN = (s.supply == .run && s.link.mode == .quiet && s.link.notices.any fun e => e.key.cls == .urgent)

/-! ### The power path and the locks -/

/-- A source's record (R50 to R52, R55, R57 to R59, R66): the switch follows the state, presence is taken exactly outside
ABSENT and DISABLED, DISABLED is the state of a disabled source and holds no pending change, no fault condition holds in a state that takes faults,
an open latch is not found in QUALIFY and STANDBY, and the timers run only in their states. -/
abbrev SourceWf (c : SourceSettings) (pins : Pins) (x : Source) (r : SourceRun) : Prop :=
  r.switch = r.state.closed ∧
    r.presence = (r.state != .absent && r.state != .disabled) ∧
    (r.state = .disabled ↔ c.enabled = false) ∧
    (r.state = .disabled → r.pendingPresence = none) ∧
    (r.state.takesFaults = true → faultCondition c pins x = none) ∧
    (r.latchOpen = true → r.state ≠ .qualify ∧ r.state ≠ .standby) ∧
    (r.qualify ≠ .stopped → r.state = .qualify) ∧
    (r.violation ≠ .stopped → r.state = .standby ∨ r.state = .activeOn) ∧
    (r.goodWatch.isSome = true → r.state = .activeClosing ∨ r.state = .releasingHeld) ∧
    (r.state = .activeClosing → r.goodWatch.isSome = true)

/-- The power path in RUN: its sources, the published condition (R93), and SOLE and TRANSFER as R92 has them. -/
abbrev PowerWf (s : State) : Prop :=
  s.supply = .run →
    (∀ x ∈ allSources, SourceWf (s.settings.power.sources.get x) s.pins x (s.power.src.get x)) ∧
    s.power.condition = s.power.conditionNow ∧
    (∀ bay ∈ allBays,
      (s.locks.get bay).reasons.sole = s.power.soleHolds s.settings.power.lockSole bay ∧
      (s.locks.get bay).reasons.transfer = s.power.transferHolds bay)

/-- Whether a lock state is one of an empty reason set (section 5.3). -/
def LockState.released : LockState → Bool
  | .free | .unlocking _ | .jammed .release => true
  | .engaging _ | .locked | .jammed .engage | .jammed .slipped => false

/-- A bay lock: the drive is on exactly when the reason set is not empty (R99), and the state is one that the set
allows (section 5.3). -/
abbrev LockWf (l : BayLock) : Prop :=
  l.drive = !l.reasons.isEmpty ∧ l.reasons.isEmpty = l.state.released

/-! ### The backlight -/

/-- The backlight controller in RUN: the caps of R133 to R135, the level at or below the effective cap (R136), the duty
of R138, the condition and the lid its neighbours hold (R128, R132), and a dark panel with the lid closed or the mode
OFF. -/
abbrev BacklightWf (s : State) : Prop :=
  s.supply = .run →
    s.backlight = s.backlight.settled s.settings.backlight ∧
    s.backlight.condition = s.power.condition ∧
    s.backlight.lidClosed = s.ambient.lidClosed ∧
    (s.backlight.lidClosed = true → s.backlight.level = 0 ∧ s.backlight.target = none ∧ s.backlight.ambient = none) ∧
    (s.settings.backlight.scalars.mode = .off → s.backlight.level = 0 ∧ s.backlight.target = none)

/-! ### Motion port and drop detector -/

/-- Whether the bus does what the port state allows, a burst with the address byte of a read (R146, R151, R153, R158,
R160). -/
def busFits (port : PortState) : Bus → Bool
  | .idle => true
  | .setupTransfer _ => port == .setup
  | .burst _ addressByte _ => port.watchesMint && addressByte.getLsbD 7
  | .listWrite .abortOff _ => true
  | .listWrite .checkOn _ => port == .checking
  | .listWrite .checkOff _ => port == .checking

/-- The timers, the bus and the counts of each port state (R150, R152, R153). -/
abbrev MotionWf (s : State) : Prop :=
  s.motion.stall.isSome = s.motion.port.watchesMint ∧
    s.motion.retry.isSome = (s.motion.port == .lost) ∧
    s.motion.badCount ≤ 2 ∧
    (s.motion.burstPending.isSome = true → s.motion.port.watchesMint = true) ∧
    (s.motion.burstWaiting.isSome = true → s.motion.port.watchesMint = true) ∧
    busFits s.motion.port s.motion.bus = true ∧
    (s.supply = .run → (s.motion.port = .off ↔ s.settings.motion.scalars.enable = false))

/-- What an open record holds in each drop state (R164, R167 to R170). -/
abbrev RecordFits (st : DropState) (r : OpenRecord) : Prop :=
  r.bounce = r.follows.isSome ∧
    r.kind.isNone = (st == .falling) ∧
    (st = .impact → r.kind ≠ some .fallNoImpact) ∧
    r.peak.isSome = (r.kind.map RecordKind.hasImpact).getD false

/-- The drop detector (R164, R165, R173): PARK, the contact guard, DROP in both bays and an open record stand exactly in
FALLING, IMPACT and RECOVER, and the detector is SUSPENDED in every port state but STREAMING. -/
abbrev DropWf (s : State) : Prop :=
  s.drop.park = s.drop.state.inDrop ∧ s.drop.contactGuard = s.drop.state.inDrop ∧
    s.locks.a.reasons.drop = s.drop.state.inDrop ∧ s.locks.b.reasons.drop = s.drop.state.inDrop ∧
    s.drop.record.isSome = s.drop.state.inDrop ∧
    (∀ r ∈ s.drop.record, RecordFits s.drop.state r) ∧
    (s.motion.port ≠ .streaming → s.drop.state = .suspended)

/-! ### The scanner -/

/-- The codes of the slot in progress. -/
def Converter.codes : Converter → List Nat
  | .slot _ codes => codes
  | _ => []

/-- The scanner's results lie in their ranges, an invalid one is empty (R29, R48), and the reference counts stay below
the 3 at which they turn back to 0 (R44). -/
abbrev ScannerWf (c : Scanner) : Prop :=
  (∀ r ∈ c.slots.toList, r.code ≤ 4095 ∧ r.mv ≤ 20000 ∧ (r.valid = false → r.code = 0 ∧ r.mv = 0 ∧ r.count = 0)) ∧
    (∀ code ∈ c.conv.codes, code ≤ 4095) ∧ c.outsideCount ≤ 2 ∧ c.insideCount ≤ 2

/-! ### Terms of the statements -/

/-- The scanner `c` at `now` when the cycle goes on with the slots from number `from_` on: with the next slot that is
converted; with none left, with the cycle that is due, whose timer takes the period then in force; else at rest (R34). -/
def Scanner.goesOn (c : Scanner) (set : ScanSettings) (from_ : Nat) (now : Moment) : Scanner :=
  match slotFrom set from_ with
  | some m => { c with conv := .slot m [] }
  | none =>
    if c.cycleDue then { c with period := some { since := now, length := set.period }, cycleDue := false, conv := .slot 0 [] }
    else { c with conv := .idle }

/-- The scanner `c` at `now` when slot `n` has ended or has been abandoned: a spot read that waits starts, before which
slot the cycle goes on being kept, else the cycle goes on (R34, R36, R43). -/
def Scanner.leaves (c : Scanner) (set : ScanSettings) (n : Fin 16) (now : Moment) : Scanner :=
  match c.spot with
  | some q => { c with spot := none, conv := .spot q.input q.divider ((slotFrom set (n.val + 1)).map fun _ => n) }
  | none => c.goesOn set (n.val + 1) now

/-- The limit state after a result of `mv` (R37). -/
def LimitState.after (old : LimitState) (c : SlotSettings) (mv : Nat) : LimitState :=
  if c.low = none ∧ c.high = none then old
  else if (∃ h ∈ c.high, h < mv) ∧ old ≠ .above then .above
  else if ∃ l ∈ c.low, mv < l then .below
  else if old = .above ∧ ¬ ∃ h ∈ c.high, mv + c.hysteresis ≤ h then .above
  else if old = .below ∧ ¬ ∃ l ∈ c.low, l + c.hysteresis ≤ mv then .below
  else .inside

/-- The record of a source once the scanner has become DEGRADED at `now`: the qualify timer is paused, a violation timer
running in ACTIVE/ON is stopped, and the current count is 0 (R57, R59, R61). -/
def SourceRun.paused (r : SourceRun) (now : Moment) : SourceRun :=
  { r with
    qualify := match r.qualify with
      | .running since length => .paused (now - since).toNat length
      | q => q
    violation := if r.state = .activeOn then .stopped else r.violation
    currentCount := 0 }

/-- The record of a source once the scanner has become NORMAL at `now`: a paused qualify timer goes on from the time it had
run (R57). -/
def SourceRun.resumed (r : SourceRun) (now : Moment) : SourceRun :=
  { r with qualify := match r.qualify with
    | .paused run length => .running (now - BitVec.ofNat 32 run) length
    | q => q }

/-- The record of a source in a state that takes faults once it has taken a fault of this kind (R51, R60): the switch is
open and every timer stopped; presence, latch, drained and the readings stay. -/
def SourceRun.faulted (r : SourceRun) (k : FaultKind) : SourceRun :=
  { r with state := .fault k, switch := false, qualify := .stopped, violation := .stopped, goodWatch := none }

/-- The record of a source in QUALIFY or STANDBY once it has been closed at `now`, GOOD_x not being asserted (R64). -/
def SourceRun.closing (r : SourceRun) (now : Moment) : SourceRun :=
  { r with
    state := .activeClosing, switch := true, qualify := .stopped, violation := .stopped, currentCount := 0
    goodWatch := some now }

/-- The record of a source in QUALIFY or STANDBY once it has been closed with GOOD_x asserted already (R64). -/
def SourceRun.confirmed (r : SourceRun) : SourceRun :=
  { r with
    state := .activeOn, switch := true, qualify := .stopped, violation := .stopped, currentCount := 0
    goodWatch := none }

/-- The record of a source whose presence is lost (R55). -/
def SourceRun.lost (r : SourceRun) : SourceRun :=
  { r with
    state := .absent, presence := false, pendingPresence := none, switch := false, qualify := .stopped
    violation := .stopped, currentCount := 0, drained := false, detachSeen := true, goodWatch := none }

/-- The record of a bay in ACTIVE whose latch opens (R66): its switch stays closed and its GOOD watch goes on. -/
def SourceRun.held (r : SourceRun) : SourceRun :=
  { r with
    state := .releasingHeld, switch := true, latchOpen := true, pendingLatch := none, qualify := .stopped
    violation := .stopped, currentCount := 0 }

/-- No source but `x` has its switch closed, and none but `x` and the members of `reserve` is in STANDBY. -/
abbrev Alone (x : Source) (reserve : List Source) (s : State) : Prop :=
  ∀ z ∈ allSources, z ≠ x → (s.src z).state.closed = false ∧ (z ∉ reserve → (s.src z).state ≠ .standby)

/-- The incoming source `x` of a transfer with an outgoing switch closed leaves by `cmd` for `gone` (R84, R87): its GOOD
watch runs out, its presence is lost, its window violation times out, or its latch opens. -/
abbrev IncomingLeaves (x : Source) (cmd : Instr) (gone : SourceState) (s : State) : Prop :=
  (cmd = .switchWatchExpiry x ∧ (s.src x).state = .activeClosing ∧ reachedSince s (s.src x).goodWatch 5 = true ∧
      gone = .fault .switchFault) ∨
    (cmd = .presenceHoldExpiry x ∧ ((s.src x).state = .activeClosing ∨ (s.src x).state = .activeOn) ∧
      (s.src x).presence = true ∧ reachedSince s (s.src x).pendingPresence (holdTime x s) = true ∧ gone = .absent) ∨
    (cmd = .windowFaultExpiry x ∧ windowFaultReached x s = true ∧ gone = .fault (windowFaultKind (s.src x).violation)) ∨
    (∃ bay ∈ allBays, cmd = .latchDebounceExpiry bay ∧ x = baySource bay ∧
      ((s.src x).state = .activeClosing ∨ (s.src x).state = .activeOn) ∧ (s.src x).latchOpen = false ∧
      reachedSince s (s.src x).pendingLatch 2 = true ∧ faultCondition (s.srcSettings x) s.pins x = none ∧
      gone = .releasingOpen)

/-- A request with this KIND, TAG and payload is served now (R5, R6): the part is in RUN, and the request queue is
empty or has this request, not yet served, at its head. -/
abbrev Ready (kind tag : Byte) (p : List Byte) (s : State) : Prop :=
  s.supply = .run ∧ tag ≠ 0 ∧
    (s.link.queue = [] ∨
      s.link.queue.head? = some { kind := kind, tag := tag, payload := p, served := false })

/-- The reply that goes with a request, and is not BUSY (R3, R7). -/
def replyTo (kind tag : Byte) (reply : List Byte) : Reply :=
  { kind := replyKind kind, tag := tag, payload := reply, busy := false }

/-- `s` with the served request at the head of the queue, its reply at the end of the reply list, on LTX if that was free
and no reply waited before it, and WAKE_N at its level (R6, R7, R10, R16). -/
def State.replied (s : State) (kind tag : Byte) (p reply : List Byte) : State :=
  { s with link := { s.link with
      queue := { kind := kind, tag := tag, payload := p, served := true } :: s.link.queue.tail
      replies := s.link.replies ++ [replyTo kind tag reply]
      ltx := s.link.ltx.or ((s.link.replies ++ [replyTo kind tag reply]).head?.map .reply)
      wakeN := wakeLevel s.link.mode s.link.notices } }

/-- `s.replied` with the notices an act may have posted taken from `t`, and the model's own `freeCount` with them. -/
def State.answered (s t : State) (kind tag : Byte) (p reply : List Byte) : State :=
  State.replied { s with link := { s.link with notices := t.link.notices }, freeCount := t.freeCount } kind tag p reply

/-- `s` with the part of the link that any act may change taken from `t`: the notice queue, what LTX sends, and WAKE_N.
`freeCount`, the model's own, is taken from `t` as well. -/
def State.acted (s t : State) : State :=
  { s with
    link := { s.link with notices := t.link.notices, ltx := t.link.ltx, wakeN := t.link.wakeN }
    freeCount := t.freeCount }

/-- The rank of a class (R10). -/
def NoticeClass.rank : NoticeClass → Nat
  | .low => 0
  | .normal => 1
  | .urgent => 2

/-- Whether a cause of a key is held in the notice queue. -/
def State.holds (s : State) (c : Cause) : Bool :=
  s.link.notices.any fun e => e.key == c.key && (e.causes &&& c.mask) == c.mask

/-- Whether LTX sends a notice of the key of `c` that shows the cause (R14). -/
def State.sends (s : State) (c : Cause) : Bool :=
  match s.link.ltx with
  | some (.notice (key :: low :: high :: _)) =>
    key == BitVec.ofNat 8 c.key.code && ((high ++ low) &&& c.mask) == c.mask
  | _ => false

/-- A cause has been posted in the act from `s` to `t`: its entry holds it, or LTX, which was free, has taken the entry
(R10, R13). -/
abbrev Posted (s t : State) (c : Cause) : Prop := t.holds c = true ∨ (s.link.ltx = none ∧ t.sends c = true)

/-- Slot `n` has ended in the act from `s` to `t` with this result: the slot holds it with its flags, compared with the
limits, and a crossing, which a first result is not, is flagged and posted (R35, R37, R38); no other slot changes. -/
abbrev SlotEnds (s t : State) (n : Fin 16) (code mv count : Nat) (degraded : Bool) : Prop :=
  let old : SlotRun := s.scanner.slots[n]
  let new : LimitState := old.limit.after s.settings.scan.slots[n] mv
  let crossing : Bool := decide (old.limit ≠ .unknown ∧ new ≠ old.limit)
  t.scanner.slots[n] =
      { code := code, mv := mv, valid := true, unsettled := false, degraded := degraded, count := count, limit := new,
        crossed := old.crossed || crossing } ∧
    (∀ k ∈ List.finRange 16, k ≠ n → t.scanner.slots[k] = s.scanner.slots[k]) ∧
    (crossing = true → Posted s t (.limitCrossing n))

/-- The backlight when the ambient front end has handed it a value (R127, R130): the value is the working ambient, and in
AUTO it sets the target directly where it is a seed or the target is unset, else only from the hysteresis on; caps, level
and duty follow. -/
def Backlight.handed (b : Backlight) (c : BacklightSettings) (value : Nat) (seed : Bool) : Backlight :=
  let level : Nat := (max 0 (min 1000 ((curveLevel c.curve value : Int) + c.scalars.bias))).toNat
  let moves : Bool := b.target.all fun g => seed || decide ((c.scalars.hysteresis : Int) ≤ |(level : Int) - g|)
  Backlight.settled { b with
    ambient := some value
    target := if c.scalars.mode = .auto ∧ moves = true then some level else b.target } c

/-- The backlight when the lid has opened (R132): MANUAL takes the manual level as its target; AUTO and OFF keep theirs. -/
def Backlight.uncovered (b : Backlight) (c : BacklightSettings) : Backlight :=
  Backlight.settled { b with
    lidClosed := false
    target := if c.scalars.mode = .manual then some c.scalars.manual else b.target } c

/-- A change of the cap binding in the act from `s` to `t` has been posted (R135). -/
abbrev BindingPosted (s t : State) : Prop :=
  (s.backlight.binding = false → t.backlight.binding = true → Posted s t .capEngaged) ∧
    (s.backlight.binding = true → t.backlight.binding = false → Posted s t .capReleased)

/-- The off-list that an abort of the check in progress writes: the whole list where the on-list write has begun and the
off-list write has not ended, as phase and bus tell, else nothing (R160; DEDUCED, log 20). -/
def State.owedOffList (s : State) : List ListWrite :=
  match s.motion.port, s.motion.check.phase, s.motion.bus with
  | .checking, .onSettle, _ | .checking, .on, _ | .checking, _, .listWrite .checkOff _ => s.settings.motion.check.offList
  | _, _, _ => []

/-- The bus when a check in progress, if there is one, has been aborted and the transfer in progress cut off: it writes
the off-list owed; with none owed an earlier abort's off-list goes on, and any other transfer leaves the bus idle (R146,
R160; DEDUCED, log 20). -/
def State.busLeft (s : State) : Bus :=
  match s.owedOffList, s.motion.bus with
  | [], .listWrite .abortOff left => .listWrite .abortOff left
  | [], _ => .idle
  | writes, _ => .listWrite .abortOff writes

/-- The bus when a burst has fallen due: an idle one begins it with the W and data address of `c`, for the time of the
assertion it answers or for `now`; a busy one goes on, and the burst waits (R153, R155). -/
def Bus.withBurst (bus : Bus) (c : MotionScalars) (call : Option BurstCall) (now : Moment) : Bus :=
  match bus, call with
  | .idle, some (.assertion m) => .burst c.w (c.address ||| 0x80) m
  | .idle, some .level => .burst c.w (c.address ||| 0x80) now
  | _, _ => bus

/-- The bus when an entry of the setup list begins: an idle one begins the entry's transfer, a WAIT having none; on a busy
one the entry waits (R146, R151). -/
def Bus.withEntry (bus : Bus) (entry : Option SetupEntry) : Bus :=
  match bus, entry with
  | .idle, some (.write a v) => .setupTransfer [a &&& 0x7F, v]
  | .idle, some (.check a _ _) => .setupTransfer [a ||| 0x80]
  | _, _ => bus

/-- A transfer in flight that waits for its incoming source, another than `x`, so that no rule of the transfer moves a
source until that closing ends (R84). -/
def transferWaits (x : Source) (s : State) : Bool :=
  match s.power.transfer with
  | some t => t.incoming != x && (s.src t.incoming).state == .activeClosing
  | none => false

/-- Whether a pending presence change of source `x` has lasted for the plain debounce, so that it is taken when the contact
guard turns off (R54). -/
def presenceOver (x : Source) (s : State) : Bool := reachedSince s (s.src x).pendingPresence (presenceDebounce x)

/-- Whether the violation timer of source `x` in ACTIVE/ON has run for the plain violation time, so that its fault is taken
when the contact guard turns off (R59). -/
def windowOver (x : Source) (s : State) : Bool :=
  match (s.src x).state, (s.src x).violation with
  | .activeOn, .running since _ => timeReached s since (s.srcSettings x).violationTime
  | _, _ => false

/-- The contact guard's turning off moves no bay of its own, and no transfer and no join is in flight, so that what follows
is the evaluation alone (R76, R78). -/
abbrev GuardFallsQuiet (s : State) : Prop :=
  s.power.transfer = none ∧ s.power.joining = none ∧
    ∀ y ∈ allBays, presenceOver (baySource y) s = false ∧ windowOver (baySource y) s = false

/-- The KIND of a request command (section 1.3). UNKNOWN_KIND_REQUEST is one for a KIND outside the catalogue alone (log 3). -/
def kindOf : Instr → Option Byte
  | .identify _ _ => some 0x01
  | .restart _ _ => some 0x02
  | .quiet _ _ => some 0x03
  | .talk _ _ => some 0x04
  | .setSlot _ _ => some 0x10
  | .getSlot _ _ => some 0x11
  | .setScan _ _ => some 0x12
  | .readResults _ _ => some 0x13
  | .spotRead _ _ => some 0x14
  | .setTempCal _ _ => some 0x15
  | .setSource _ _ => some 0x20
  | .getSource _ _ => some 0x21
  | .clearFault _ _ => some 0x22
  | .setPolicy _ _ => some 0x23
  | .getPower _ _ => some 0x24
  | .setHostLock _ _ => some 0x28
  | .getLocks _ _ => some 0x29
  | .retryLock _ _ => some 0x2A
  | .setAmbient _ _ => some 0x30
  | .setCurve _ _ => some 0x31
  | .getCurve _ _ => some 0x32
  | .setBacklight _ _ => some 0x33
  | .getBacklight _ _ => some 0x34
  | .setCaps _ _ => some 0x35
  | .setMotion _ _ => some 0x40
  | .setSetupList _ _ => some 0x41
  | .setCheckLists _ _ => some 0x42
  | .selfCheck _ _ => some 0x43
  | .getMotion _ _ => some 0x44
  | .readLog _ _ => some 0x50
  | .clearLog _ _ => some 0x51
  | .unknownKindRequest kind _ _ => if catalogue.contains kind then none else some kind
  | _ => none

/-- The payload length the fields of a KIND give; for a list, the length its count implies (R8). -/
def requestLength (kind : Byte) (p : List Byte) : Option Nat :=
  match kind.toNat with
  | 0x01 | 0x03 | 0x04 | 0x24 | 0x29 | 0x32 | 0x34 | 0x43 | 0x44 => some 0
  | 0x02 | 0x11 | 0x22 | 0x2A => some 1
  | 0x13 | 0x14 | 0x21 | 0x28 => some 2
  | 0x12 | 0x23 => some 3
  | 0x15 | 0x51 => some 4
  | 0x50 => some 5
  | 0x30 => some 6
  | 0x35 => some 10
  | 0x10 => some 16
  | 0x40 => some 17
  | 0x33 => some 19
  | 0x20 => some 21
  | 0x31 | 0x41 => some (1 + 4 * u8 p 0)
  | 0x42 => some (8 + 2 * (u8 p 0 + u8 p (1 + 2 * u8 p 0)))
  | _ => none

/-- The commands that move the time base, or set it up (R19, R23). -/
def movesTime : Instr → Bool
  | .timeBaseTick | .powerUp _ | .allPowerLost => true
  | _ => false

/-- The commands of the supplies (R17 to R20). -/
def movesSupply : Instr → Bool
  | .powerUp _ | .vaonRiseAbove6V | .vaonFallTo6V | .vaonQualifyExpiry | .startupChecksEnd _ _ | .enterRetain
  | .allPowerLost => true
  | _ => false

/-- The commands that are a change of an input pin's level. -/
def movesPin : Instr → Bool
  | .presPinChange _ _ | .faultPinAssert _ | .faultPinRelease _ | .goodConfirm _ | .goodRelease _
  | .latchPinChange _ _ | .lksPinChange _ _ | .lidPinChange _ | .mintAssert | .mintRelease => true
  | _ => false

/-- The commands with which a start can end: the checks of a cold or supply start, and the end of a RESTART reply (R20, R24). -/
def endsStart : Instr → Bool
  | .startupChecksEnd _ _ | .ltxFrameSent => true
  | _ => false

/-- The setting requests (R22). -/
def setsSettings : Instr → Bool
  | .setSlot _ _ | .setScan _ _ | .setTempCal _ _ | .setSource _ _ | .setPolicy _ _ | .setAmbient _ _
  | .setCurve _ _ | .setBacklight _ _ | .setCaps _ _ | .setMotion _ _ | .setSetupList _ _ | .setCheckLists _ _ => true
  | _ => false

/-- The commands in whose act a shock record can be written or the log emptied (R166 to R177, R184). -/
def movesLog : Instr → Bool
  | .burstEnd _ | .stallExpiry | .setMotion _ _ | .setSetupList _ _ | .selfCheck _ _ | .enterRetain | .clearLog _ _ => true
  | _ => false

/-- A structural error in the fields of a request whose length is right (R9, R12, and the rule of each request). -/
def malformed (kind : Byte) (p : List Byte) : Bool :=
  let badSources := decide (u8 p 0 = 0 ∨ 8 ≤ u8 p 0)
  let badBays := decide (u8 p 0 ≠ 2 ∧ u8 p 0 ≠ 4 ∧ u8 p 0 ≠ 6)
  match kind.toNat with
  | 0x02 => decide (1 < u8 p 0)
  | 0x10 =>
    decide (15 < u8 p 0 ∨ 1 < u8 p 1 ∨ 16 < u8 p 2 ∨ 3 < u8 p 3 ∨ 2 < u8 p 4 ∨ 1 < u8 p 8 ∨ 1 < u8 p 11
      ∨ (u8 p 4 = 1 ∧ u8 p 5 ≠ 2 ∧ u8 p 5 ≠ 4 ∧ u8 p 5 ≠ 8))
  | 0x11 => decide (15 < u8 p 0)
  | 0x12 => decide (1 < u8 p 2)
  | 0x14 => decide (16 < u8 p 0 ∨ 3 < u8 p 1)
  | 0x20 =>
    badSources || decide (1 < u8 p 1 ∨ 3 < u8 p 2 ∨ 4 < u8 p 5 ∨ 1 < u8 p 13 ∨ 1 < u8 p 16 ∨ 1 < u8 p 19)
      || (decide (u8 p 0 % 2 = 1) && decide (u8 p 5 = 3 ∨ u8 p 13 = 1 ∨ u8 p 16 = 1 ∨ u8 p 19 = 1))
  | 0x21 => badSources || decide (1 < u8 p 1)
  | 0x22 => badSources
  | 0x23 => decide (3 < u8 p 0 ∨ 1 < u8 p 2)
  | 0x28 => badBays || decide (1 < u8 p 1)
  | 0x2A => badBays
  | 0x30 => decide (1 < u8 p 1)
  | 0x31 =>
    decide (u8 p 0 < 2 ∨ 12 < u8 p 0)
      || (List.range (u8 p 0 - 1)).any fun i =>
          decide (min (u32 p (1 + 4 * (i + 1)) / 1024) 131040 ≤ min (u32 p (1 + 4 * i) / 1024) 131040)
  | 0x33 => decide (2 < u8 p 0 ∨ clampInt (s16 p 13) (-400) 1500 ≤ clampInt (s16 p 11) (-400) 1500)
  | 0x40 => decide (1 < u8 p 0 ∨ 2 < u8 p 1)
  | 0x41 => decide (12 < u8 p 0) || (List.range (u8 p 0)).any fun i => decide (2 < u8 p (1 + 4 * i))
  | 0x42 => decide (4 < u8 p 0 ∨ 4 < u8 p (1 + 2 * u8 p 0))
  | _ => false

/-- Commands taken one after another. -/
def runAll : List Instr → State → Host.Outcome State Fault Refusal
  | [], s => .next s
  | c :: rest, s =>
    match exec c s with
    | .next t => runAll rest t
    | .fault f => .fault f
    | .refused r => .refused r

end Sys2Proof.Machine
end

