-- ==== Sys2Proof/Certificates/Slice0/Obligations.lean ====
section
/-! DEFINITION. The statements for the provers, chapter by chapter. Each says what a command does, what it leaves alone,
or what every command keeps. -/

open Sys2Proof Sys2Proof.Machine

/-- The state after a cold start: link, sources, locks, condition, log and blocks at their start values (section 1.6, section 2.8, section 3.1, section 4.1, section 5.6, section 6.7, section 7.7, section 8.7, section 9.8). Where the spec leaves a point open it states the model's choice: log 1. -/
def Obligations.ResetState : Prop :=
      State.reset.supply = .run ∧ State.reset.coldMark = false ∧
      State.reset.link.mode = .talk ∧ State.reset.link.queue = [] ∧ State.reset.link.replies = [] ∧
      State.reset.link.rx = .hunt ∧ State.reset.link.wakeN = false ∧
      State.reset.startRec =
        { cause := .cold, retainLost := false, origin := .defaults, logicPass := true, memoryPass := true } ∧
      (∀ x ∈ allSources, (State.reset.src x).state = .absent ∧ (State.reset.src x).switch = false) ∧
      (∀ y ∈ allBays, (State.reset.locks.get y).state = .free ∧ (State.reset.locks.get y).drive = false ∧
        (State.reset.locks.get y).reasons = ⟨false, false, false, false⟩) ∧
      State.reset.power.transfer = none ∧ State.reset.power.condition = .noSupply ∧
      State.reset.store.log = [] ∧ State.reset.store.nextSeq = 1 ∧
      (∀ r ∈ State.reset.scanner.slots.toList, r.valid = false ∧ r.limit = .unknown) ∧
      State.reset.scanner.ref = .normal ∧ State.reset.ambient.validity = .pending ∧
      State.reset.backlight.level = 0 ∧ State.reset.backlight.blEn = false ∧
      State.reset.drop.state = .suspended ∧ State.reset.drop.park = false

/-- Power-up above 6.0 V, 20 ms, the checks of 8 ms and their end take any unpowered part to the reset state (section 1.5, section 1.6). Where the spec leaves a point open it states the model's choice: logs 1 and 4. -/
def Obligations.ColdStartGivesReset : Prop :=
  ∀ (s : State),
    s.supply = .unpowered →
    s.pins = .released →
    s.freeCount = 0 →
    s.pending = [] →
    runAll ([.powerUp true] ++ List.replicate 20 .timeBaseTick ++ [.vaonQualifyExpiry] ++
        List.replicate 8 .timeBaseTick ++ [.startupChecksEnd true true]) s = .next (State.reset)

/-- A step runs the command at the front of the queue on the state with the rest; with none waiting the part idles (section 1.2). Where the spec leaves a point open it states the model's choice: log 3. -/
def Obligations.StepRunsFront : Prop :=
  ∀ (s : State) (c : Instr) (rest : List Instr),
    step { s with pending := c :: rest } = exec c { s with pending := rest } ∧
      step { s with pending := [] } = .next { s with pending := [] }

/-- Every command ends in a next state; supply, time base, pins, start record, cold mark and waiting commands change only by their own commands (section 1.5, section 1.6). Where the spec leaves a point open it states the model's choice: logs 3 and 4. -/
def Obligations.EveryCommandCompletes : Prop :=
  ∀ (s : State) (c : Instr),
    ∃ t, exec (c) s = .next t ∧
      ((t.pending = s.pending ∧
      (movesTime c = false → t.timeBase = s.timeBase) ∧
      (movesSupply c = false → t.supply = s.supply) ∧
      (movesPin c = false → t.pins = s.pins) ∧
      (endsStart c = false → t.startRec = s.startRec) ∧
      (movesSupply c = false → t.coldMark = s.coldMark)))

/-- Settings change only by setting requests and starts, and the shock log only where records are written or cleared (section 1.6, section 10.2, section 10.5). Where the spec leaves a point open it states the model's choice: logs 2 and 3. -/
def Obligations.StoreChangesOnly : Prop :=
  ∀ (s : State) (c : Instr),
    ∃ t, exec (c) s = .next t ∧
      (((setsSettings c = false → endsStart c = false → movesSupply c = false →
        t.store.settings = s.store.settings) ∧
      (DropWf s → MotionWf s → movesLog c = false → endsStart c = false → movesSupply c = false →
        t.store.log = s.store.log ∧ t.store.nextSeq = s.store.nextSeq) ∧
      (s.supply = .run → s.store.intact = true → t.store.intact = true)))

/-- The time base counts while any supply stands; power comes and goes; VAON above 6.0 V for 20 ms in RETAIN begins the start-up checks (section 1.6, section 1.5). Where the spec leaves a point open it states the model's choice: logs 2 and 4. -/
def Obligations.SuppliesMove : Prop :=
  ∀ (s : State) (above : Bool) (wait : Option Moment) (since : Moment),
    (s.supply ≠ .unpowered →
            exec (.timeBaseTick) s = .next ({ s with timeBase := s.timeBase + 1 })) ∧
      (s.supply ≠ .unpowered → s.timeBase.toNat = 4294967295 →
            exec (.timeBaseTick) s = .next ({ s with timeBase := 0 })) ∧
      (s.supply = .unpowered →
            exec (.powerUp above) s = .next ({ s with
            store := { settings := .cold, log := [], nextSeq := 1, checkWord := Config.checkWord .cold [] 1 },
            timeBase := 0,
            coldMark := true,
            supply := .retain (if above then some 0 else none) })) ∧
      (s.supply = .retain wait →
            exec (.allPowerLost) s = .next ({ s with
            store := { settings := .cold, log := [], nextSeq := 1, checkWord := Config.checkWord .cold [] 1 },
            timeBase := 0,
            coldMark := false,
            supply := .unpowered })) ∧
      (s.supply = .retain wait →
            ∃ t, exec (.retainStoreCorruption) s = .next t ∧ (t = { s with
              store := { s.store with checkWord := t.store.checkWord },
              freeCount := s.freeCount + 16 } ∧
            t.store.checkWord ≠ Config.checkWord s.store.settings s.store.log s.store.nextSeq)) ∧
      (s.supply = .retain none →
            exec (.vaonRiseAbove6V) s = .next ({ s with supply := .retain (some s.timeBase) })) ∧
      (s.supply = .retain wait →
            exec (.vaonFallTo6V) s = .next ({ s with supply := .retain none })) ∧
      (s.supply = .run ∨ s.supply = .checks since →
            exec (.vaonFallTo6V) s = .next (s)) ∧
      (s.supply = .retain (some since) → 20 ≤ (s.timeBase - since).toNat →
            exec (.vaonQualifyExpiry) s = .next ({ s with supply := .checks s.timeBase })) ∧
      (s.supply = .retain (some since) → (s.timeBase - since).toNat < 20 →
            exec (.vaonQualifyExpiry) s = .next (s)) ∧
      (s.supply = .checks since →
            exec (.enterRetain) s = .next ({ s with supply := .retain none }))

/-- ENTER_RETAIN in RUN: an open record is written TRUNCATED, the outputs go off, the running state is lost, and the store and time base are kept (section 1.5, section 9.6, section 10.2). Where the spec leaves a point open it states the model's choice: log 4. -/
def Obligations.EnterRetainStops : Prop :=
  ∀ (s : State),
    s.supply = .run →
    ∃ t, exec (.enterRetain) s = .next t ∧
      ((t = { s with
        supply := .retain none,
        store := t.store,
        link := { rx := .hunt, queue := [], replies := [], ltx := none, mode := .talk, notices := [], wakeN := false,
                  restart := none },
        scanner := t.scanner,
        power := t.power,
        locks := t.locks,
        ambient := t.ambient,
        backlight := t.backlight,
        motion := t.motion,
        drop := t.drop } ∧
      (∀ x ∈ allSources, (t.src x).state = .absent ∧ (t.src x).switch = false) ∧ t.power.transfer = none ∧
      (∀ y ∈ allBays, (t.locks.get y).reasons = ⟨false, false, false, false⟩ ∧ (t.locks.get y).drive = false) ∧
      t.backlight.blEn = false ∧ t.backlight.duty = 0 ∧ t.drop.park = false ∧
      t.store.settings = s.store.settings ∧
      (s.drop.record = none → t.store = s.store) ∧
      (∀ r ∈ s.drop.record, ∃ w ∈ t.store.log.getLast?, w.truncated = true ∧ w.time = r.time ∧
        w.seq = nextAssigned s.store.nextSeq ∧ t.store.nextSeq = w.seq + 1)))

/-- STARTUP_CHECKS_END: the store is verified, every block has its start values, START is posted with its causes (section 1.6, section 2.8, section 3.1, section 4.1, section 5.6, section 6.7, section 7.7, section 8.7, section 9.8). Where the spec leaves a point open it states the model's choice: logs 13 and 18. -/
def Obligations.StartCompletes : Prop :=
  ∀ (s : State) (since : Moment) (logic : Bool) (memory : Bool),
    s.supply = .checks since →
    8 ≤ (s.timeBase - since).toNat →
    ∃ t, exec (.startupChecksEnd logic memory) s = .next t ∧
      (let cfg : Settings := t.store.settings
       let lit : Option Nat := if cfg.backlight.scalars.mode = .manual ∧ s.pins.lid = false then some cfg.backlight.scalars.manual
         else none
       let cap : Nat := min cfg.backlight.caps.noSupply cfg.backlight.scalars.unknownCap
       let hz : Nat := (match cfg.motion.scalars.rate with | .r400 => 400 | .r800 => 800 | .r1600 => 1600)
       let stall : Nat := (4000 * cfg.motion.scalars.w + hz - 1) / hz + 20
       let first : Option SetupEntry := if cfg.motion.scalars.enable = true then cfg.motion.setupList.head? else none
       (t.supply = .run ∧ t.coldMark = false ∧ t.timeBase = s.timeBase ∧ t.pins = s.pins ∧ t.pending = s.pending ∧
      t.store = (if s.coldMark || !s.store.intact then Store.cold else s.store) ∧
      t.startRec =
        { cause := if s.coldMark then .cold else .supply,
          retainLost := !s.coldMark && !s.store.intact,
          origin := if s.coldMark || !s.store.intact then .defaults else .retained,
          logicPass := logic,
          memoryPass := memory } ∧
      t.link = { Link.start with notices := t.link.notices, ltx := t.link.ltx } ∧
      (∀ x ∈ allSources, t.src x = { SourceRun.start with
        state := (if (t.srcSettings x).enabled = true then .absent else .disabled),
        pendingPresence := (if (t.srcSettings x).enabled = true ∧ ((t.srcSettings x).presence = .forced ∨
          ((t.srcSettings x).presence = .pin ∧ s.pins.pres.get x = true)) then some s.timeBase else none),
        pendingLatch := (match x with
          | .dc => none
          | .a => if s.pins.latch.a = true then some s.timeBase else none
          | .b => if s.pins.latch.b = true then some s.timeBase else none) }) ∧
      t.power = { src := t.power.src, transfer := none, joining := none, deferred := false, condition := .noSupply } ∧
      t.locks = ⟨{ reasons := ⟨false, false, false, false⟩, drive := false, state := .free, sense := s.pins.lks.a,
                   pendingSense := none },
                 { reasons := ⟨false, false, false, false⟩, drive := false, state := .free, sense := s.pins.lks.b,
                   pendingSense := none }⟩ ∧
      (∀ r ∈ t.scanner.slots.toList, r = SlotRun.start) ∧
      t.scanner = { Scanner.start with
        slots := t.scanner.slots, conv := .slot 0 [],
        period := some { since := s.timeBase, length := cfg.scan.period } } ∧
      t.ambient = { Ambient.start with lidClosed := s.pins.lid } ∧
      t.backlight = { Backlight.start with
        lidClosed := s.pins.lid, powerCap := cfg.backlight.caps.noSupply, thermalCap := cfg.backlight.scalars.unknownCap,
        effectiveCap := cap, target := lit, binding := (match lit with | some v => decide (cap < v) | none => false),
        rampSince := s.timeBase } ∧
      t.motion = { Motion.start with
        port := (if cfg.motion.scalars.enable = false then .off
          else if cfg.motion.setupList = [] then .streaming else .setup),
        stall := (if cfg.motion.scalars.enable = true ∧ cfg.motion.setupList = []
          then some { since := s.timeBase, length := stall } else none),
        setup := { SetupRun.start with waitSince := (match first with | some (.wait _) => some s.timeBase | _ => none) },
        bus := (match first with
          | some (.write a v) => .setupTransfer [a &&& 0x7F, v]
          | some (.check a _ _) => .setupTransfer [a ||| 0x80]
          | some (.wait _) => .idle
          | none => if cfg.motion.scalars.enable = true ∧ s.pins.mint = true
            then .burst cfg.motion.scalars.w (cfg.motion.scalars.address ||| 0x80) s.timeBase else .idle) } ∧
      t.drop = Drop.start ∧
      ((t.holds (if s.coldMark then .startCold else .startSupply) = true ∧
          ((!s.coldMark && !s.store.intact) = true → t.holds .startRetainLost = true)) ∨
        (t.sends (if s.coldMark then .startCold else .startSupply) = true ∧
          ((!s.coldMark && !s.store.intact) = true → t.sends .startRetainLost = true)))))

/-- The end of a RESTART reply: link and blocks are reset, an open record is written, DEFAULTS gives cold settings, KEEP none (section 1.6, section 2.8, section 4.2, section 5.6, section 6.4, section 6.7, section 7.7, section 8.7, section 9.6, section 9.8, section 10.2). Where the spec leaves a point open it states the model's choice: logs 12, 13, 18, 20, 36 and 37. -/
def Obligations.RequestedStart : Prop :=
  ∀ (s : State) (r : Reply) (opt : RestartOption) (y : Bay) (f : Filter),
    s.supply = .run →
    s.link.ltx = some (.reply r) →
    r.busy = false →
    s.link.restart = some opt →
    (∃ t, exec (.ltxFrameSent) s = .next t ∧ (let cfg : Settings := t.store.settings
         let lit : Option Nat := if cfg.backlight.scalars.mode = .manual ∧ s.pins.lid = false then some cfg.backlight.scalars.manual
           else none
         let enabled : Bool := cfg.motion.scalars.enable
         let hz : Nat := (match cfg.motion.scalars.rate with | .r400 => 400 | .r800 => 800 | .r1600 => 1600)
         let stall : Nat := (4000 * cfg.motion.scalars.w + hz - 1) / hz + 20
         let first : Option SetupEntry := if enabled = true then cfg.motion.setupList.head? else none
         let call : Option BurstCall := if enabled = true ∧ cfg.motion.setupList = [] ∧ s.pins.mint = true then some .level else none
         let left : Bus := if s.owedOffList = [] then .idle else .listWrite .abortOff s.owedOffList
         let written : Store := (match s.drop.record with
           | some r => s.store.write (r.complete true s.drop.fallCount s.store.settings.motion.scalars.rate)
           | none => s.store)
         (t = { s with
          store := t.store, startRec := t.startRec, link := t.link, scanner := t.scanner, power := t.power,
          locks := t.locks, ambient := t.ambient, backlight := t.backlight, motion := t.motion, drop := t.drop,
          freeCount := t.freeCount } ∧
        t.link = { t.link with rx := .hunt, queue := [], replies := [], restart := none, mode := .talk, wakeN := false } ∧
        t.startRec = { s.startRec with
          cause := .requested,
          retainLost := false,
          origin := if opt = .defaults then .defaults else s.startRec.origin } ∧
        t.store = (if opt = .defaults then Store.withWord { written with settings := Settings.cold } else written) ∧
        (s.drop.record.isSome = true → t.holds .dropRecord = true ∨ t.sends .dropRecord = true) ∧
        (∀ y ∈ allBays, (t.locks.get y).reasons.host = (s.locks.get y).reasons.host) ∧
        (t.holds .startRequested = true ∨ t.sends .startRequested = true) ∧
        (opt = .keep → s.drop.state.inDrop = false → s.drop.record = none →
          t.power = { s.power with src := t.power.src } ∧ t.locks = s.locks ∧
          (∀ x ∈ allSources, t.src x = if s.scanner.ref = .degraded then (s.src x).resumed s.timeBase else s.src x)) ∧
        t.scanner = { Scanner.start with
          conv := .slot 0 [], period := some { since := s.timeBase, length := cfg.scan.period } } ∧
        t.ambient = { Ambient.start with lidClosed := s.pins.lid, discard := decide (s.ambient.range = .high) } ∧
        t.backlight = Backlight.settled { Backlight.start with
          lidClosed := s.pins.lid, condition := t.power.condition, target := lit, rampSince := s.timeBase } cfg.backlight ∧
        t.motion = { Motion.start with
          port := (if enabled = false then .off else if cfg.motion.setupList = [] then .streaming else .setup),
          stall := (if enabled = true ∧ cfg.motion.setupList = [] then some { since := s.timeBase, length := stall } else none),
          setup := { SetupRun.start with waitSince := (match first with | some (.wait _) => some s.timeBase | _ => none) },
          burstWaiting := (if left = .idle then none else call),
          bus := (left.withEntry first).withBurst cfg.motion.scalars call s.timeBase } ∧
        t.drop = Drop.start))) ∧
      (opt = .defaults → s.drop.state.inDrop = true → s.store.settings.power.lockSole = false → (s.locks.get y).reasons = ⟨false, false, true, false⟩ → (s.locks.get y).state = .locked → (s.locks.get y).sense = true → s.power.transfer = none → s.power.joining = none → (s.src (baySource y)).state = .activeOn → (∀ x ∈ allSources, (x ≠ baySource y → (s.src x).state = .absent) ∧ (s.src x).pendingPresence = none ∧ (s.src x).violation = .stopped) →
            ∃ t, exec (.ltxFrameSent) s = .next t ∧ ((t.holds .lockState = true ∨ t.sends .lockState = true) ∧
            (s.store.settings.power = { PowerSettings.cold with lockSole := false } →
              (t.locks.get y).reasons = ⟨true, false, false, false⟩ ∧ (t.locks.get y).state = .locked ∧
              (t.locks.get y).drive = true))) ∧
      (opt = .defaults → s.ambient.filter = some f → s.ambient.lidClosed = false → s.store.settings.ambient.k ≠ AmbientSettings.cold.k → s.backlight.lidClosed = false → s.backlight.binding = false → min (BacklightSettings.cold.caps.entry s.backlight.condition) (thermalCapOf BacklightSettings.cold.scalars s.backlight.temperature) < curveLevel BacklightSettings.cold.curve f.avg →
            ∃ t, exec (.ltxFrameSent) s = .next t ∧ (t.holds .capEngaged = true ∨ t.sends .capEngaged = true))

/-- When LTX has sent a frame it takes a waiting reply, else in TALK the oldest notice of the highest class; a sent reply frees its place (section 1.2, section 1.4). Where the spec leaves a point open it states the model's choice: log 6. -/
def Obligations.LtxChooses : Prop :=
  ∀ (s : State) (n : List Byte) (r : Reply) (rest : List Reply) (e : Entry) (early : List Entry) (late : List Entry),
    (s.supply = .run → s.link.ltx = some (.notice n) → s.link.replies = r :: rest →
            exec (.ltxFrameSent) s = .next ({ s with link := { s.link with
            ltx := some (.reply r), wakeN := wakeLevel s.link.mode s.link.notices } })) ∧
      (s.supply = .run → s.link.ltx = some (.notice n) → s.link.replies = [] → s.link.mode = .quiet ∨ s.link.notices = [] →
            exec (.ltxFrameSent) s = .next ({ s with link := { s.link with
            ltx := none, wakeN := wakeLevel s.link.mode s.link.notices } })) ∧
      (s.supply = .run → s.link.ltx = some (.notice n) → s.link.replies = [] → s.link.mode = .talk → s.link.notices = early ++ e :: late → (∀ d ∈ early, d.key.cls.rank < e.key.cls.rank) → (∀ d ∈ late, d.key.cls.rank ≤ e.key.cls.rank) →
            ∃ t, exec (.ltxFrameSent) s = .next t ∧ (t = { s with
          link := { s.link with
            ltx := some (.notice (le8 e.key.code ++ le16 e.causes.toNat ++
              (if e.key = .limit then le16 e.slots.toNat else []) ++
              snapshot { s with link := { s.link with ltx := none } } e.key)),
            notices := early ++ late,
            wakeN := false },
          freeCount := t.freeCount })) ∧
      (s.supply = .run → s.link.ltx = some (.reply r) → s.link.replies = r :: rest → s.link.restart = none ∨ r.busy = true →
            ∃ t, exec (.ltxFrameSent) s = .next t ∧ ((t = { s.acted t with link := { (s.acted t).link with
          replies := rest, queue := if r.busy then s.link.queue else s.link.queue.tail } } ∧
        (∀ q ∈ rest.head?, t.link.ltx = some (.reply q) ∧ t.link.notices = s.link.notices) ∧
        (rest = [] → s.link.mode = .quiet ∨ s.link.notices = [] → t.link.ltx = none ∧ t.link.notices = s.link.notices)))) ∧
      (s.supply = .run → s.link.ltx = some (.reply r) → s.link.replies = r :: rest → s.link.restart = none ∨ r.busy = true → rest = [] → s.link.mode = .talk → s.link.notices = early ++ e :: late → (∀ d ∈ early, d.key.cls.rank < e.key.cls.rank) → (∀ d ∈ late, d.key.cls.rank ≤ e.key.cls.rank) →
            ∃ t, exec (.ltxFrameSent) s = .next t ∧ (let queue : List Request := if r.busy then s.link.queue else s.link.queue.tail
         t = { s with
          link := { s.link with
            replies := [], queue := queue,
            ltx := some (.notice (le8 e.key.code ++ le16 e.causes.toNat ++
              (if e.key = .limit then le16 e.slots.toNat else []) ++
              snapshot { s with link := { s.link with ltx := none, replies := [], queue := queue } } e.key)),
            notices := early ++ late,
            wakeN := false },
          freeCount := t.freeCount }))

/-- The bytes of a whole frame with a matching CRC deliver exactly its request: queued, answered BUSY or dropped, and nothing else changes (section 1.1, section 1.2). Where the spec leaves a point open it states the model's choice: log 6. -/
def Obligations.FrameReceived : Prop :=
  ∀ (s : State) (kind : Byte) (tag : Byte) (p : List Byte),
    s.supply = .run →
    s.link.rx = .hunt →
    (s.link.ltx.isSome = true ∨ (s.link.replies = [] ∧ (s.link.mode = .quiet ∨ s.link.notices = []))) →
    p.length ≤ 60 →
    runAll ((frameBytes kind tag p).map fun byte => .lrxByte byte true) s = .next ({ s with link := { s.link with
      queue := s.link.queue ++
        (if tag ≠ 0 ∧ s.link.queue.length < 2
          then [{ kind := kind, tag := tag, payload := p, served := false }] else []),
      replies := s.link.replies ++
        (if tag ≠ 0 ∧ 2 ≤ s.link.queue.length ∧ busyCount s.link.replies < 3
          then [{ kind := replyKind kind, tag := tag, payload := [3], busy := true }] else []),
      ltx := s.link.ltx.or (if tag ≠ 0 ∧ 2 ≤ s.link.queue.length ∧ busyCount s.link.replies < 3
        then some (.reply { kind := replyKind kind, tag := tag, payload := [3], busy := true }) else none),
      wakeN := wakeLevel s.link.mode s.link.notices } })

/-- GAP, LENGTH and CRC faults discard the frame and post LINK; a byte without its stop bit is dropped; HUNT takes 0xC3 alone (section 1.1). Where the spec leaves a point open it states the model's choice: log 22. -/
def Obligations.ReceiverFaults : Prop :=
  ∀ (s : State) (byte : Byte) (since : Moment) (len : Byte) (got : List Byte),
    s.supply = .run →
    (s.link.rx = .header since → byte.toNat < 2 ∨ 62 < byte.toNat →
            exec (.lrxByte byte true) s = .next (finish { s with link := { s.link with
            rx := .hunt, notices := postEntry .linkLength s.link.notices } })) ∧
      (s.link.rx = .body since len got → got.length = len.toNat → crc8 (len :: got) ≠ byte →
            exec (.lrxByte byte true) s = .next (finish { s with link := { s.link with
            rx := .hunt, notices := postEntry .linkCrc s.link.notices } })) ∧
      (s.link.rx = .header since ∨ s.link.rx = .body since len got → 2 ≤ (s.timeBase - since).toNat →
            exec (.gapTimeout) s = .next (finish { s with link := { s.link with
            rx := .hunt, notices := postEntry .linkGap s.link.notices } })) ∧
      (exec (.lrxByte byte false) s = .next (finish s)) ∧
      (s.link.rx = .hunt → byte ≠ 0xC3 →
            exec (.lrxByte byte true) s = .next (finish s))

/-- A post ORs its cause into the key's entry, which keeps its place, or adds an entry after all others (section 1.4). -/
def Obligations.PostKeepsPlace : Prop :=
  ∀ (c : Cause) (early : List Entry) (e : Entry) (late : List Entry),
    (∀ d ∈ early, d.key ≠ c.key) →
    (e.key = c.key → postEntry c (early ++ e :: late) =
        early ++ { e with causes := e.causes ||| c.mask, slots := e.slots ||| c.slotMask } :: late) ∧
      postEntry c early = early ++ [{ key := c.key, causes := c.mask, slots := c.slotMask }] ∧
      (∀ q : List Entry, (q.map (·.key)).Nodup → ((postEntry c q).map (·.key)).Nodup)

/-- IDENTIFY answers with part, version and start record; QUIET and TALK set the mode; RESTART is accepted and held for its reply (section 1.7, section 1.4, section 1.6). -/
def Obligations.LinkRequests : Prop :=
  ∀ (s : State) (tag : Byte) (p : List Byte),
    (Ready 0x01 tag [] s →
            exec (.identify tag []) s = .next (s.replied 0x01 tag [] (0 :: [0x40, 0x31, 2] ++ le8 s.startRec.cause.code ++
        [boolByte s.startRec.retainLost, boolByte (!s.startRec.logicPass), boolByte (!s.startRec.memoryPass)] ++
        le8 s.startRec.origin.code ++ le32 s.timeBase.toNat))) ∧
      (Ready 0x03 tag [] s →
            exec (.quiet tag []) s = .next (State.replied { s with link := { s.link with mode := .quiet } } 0x03 tag [] [0])) ∧
      (Ready 0x04 tag [] s →
            exec (.talk tag []) s = .next (State.replied { s with link := { s.link with mode := .talk } } 0x04 tag [] [0])) ∧
      (Ready 0x02 tag p s → p.length = 1 → u8 p 0 ≤ 1 → s.power.transfer.isSome = true →
            exec (.restart tag p) s = .next (s.replied 0x02 tag p [7])) ∧
      (Ready 0x02 tag p s → p.length = 1 → u8 p 0 ≤ 1 → s.power.transfer = none →
            exec (.restart tag p) s = .next (State.replied
              { s with link := { s.link with restart := some (if u8 p 0 = 0 then .keep else .defaults) } }
              0x02 tag p [0]))

/-- A served request with an unknown KIND, a wrong length or a malformed field is answered with its error status alone, changing nothing else (section 1.2, section 1.3, section 2.2). Where the spec leaves a point open it states the model's choice: log 42. -/
def Obligations.BadRequestsRefused : Prop :=
  ∀ (s : State) (c : Instr) (kind : Byte) (r : RequestShape) (n : Fin 16),
    (kindOf c = some kind → c.request? = some r → Ready kind r.tag r.payload s → catalogue.contains kind = false →
            exec (c) s = .next (s.replied kind r.tag r.payload [4])) ∧
      (kindOf c = some kind → c.request? = some r → Ready kind r.tag r.payload s → catalogue.contains kind = true → requestLength kind r.payload ≠ some r.payload.length →
            exec (c) s = .next (s.replied kind r.tag r.payload [5])) ∧
      (kindOf c = some kind → c.request? = some r → Ready kind r.tag r.payload s → requestLength kind r.payload = some r.payload.length → malformed kind r.payload = true →
            exec (c) s = .next (s.replied kind r.tag r.payload [6])) ∧
      (kindOf c = some kind → c.request? = some r → Ready kind r.tag r.payload s → requestLength kind r.payload = some r.payload.length → kind = 0x10 → n.val < 8 → u8 r.payload 0 = n.val → (u8 r.payload 1 ≠ 1 ∨ u8 r.payload 2 ≠ ScanSettings.cold.slots[n].input.code ∨
              u8 r.payload 3 ≠ ScanSettings.cold.slots[n].divider.code ∨
              u8 r.payload 4 ≠ ScanSettings.cold.slots[n].kind.code ∨
              (u8 r.payload 4 = 1 ∧ u8 r.payload 5 ≠ ScanSettings.cold.slots[n].kind.averageByte)) →
            exec (c) s = .next (s.replied kind r.tag r.payload [6]))

/-- A request behind the served one waits; a third is answered BUSY while a BUSY place is free, else dropped; TAG 0 is discarded (section 1.2). -/
def Obligations.RequestQueueing : Prop :=
  ∀ (s : State) (c : Instr) (kind : Byte) (r : RequestShape),
    kindOf c = some kind →
    c.request? = some r →
    s.supply = .run →
    s.link.queue ≠ [] →
    s.link.queue.head? ≠ some { kind := kind, tag := r.tag, payload := r.payload, served := false } →
    ∃ t, exec (c) s = .next t ∧
      ((t = { s.acted t with link := { (s.acted t).link with
        queue := s.link.queue ++
          (if r.tag ≠ 0 ∧ s.link.queue.length < 2
            then [{ kind := kind, tag := r.tag, payload := r.payload, served := false }] else []),
        replies := s.link.replies ++
          (if r.tag ≠ 0 ∧ 2 ≤ s.link.queue.length ∧ busyCount s.link.replies < 3
            then [{ kind := replyKind kind, tag := r.tag, payload := [3], busy := true }] else []) } }))

/-- SET_SLOT stores the clamped settings of the slot, echoes them, and resets the running values that R38 names (section 2.2, section 2.3, section 2.4, section 2.5). Where the spec leaves a point open it states the model's choice: logs 14 and 31. -/
def Obligations.SetSlotStores : Prop :=
  ∀ (s : State) (tag : Byte) (p : List Byte) (n : Fin 16) (input : Input) (divider : Divider) (kind : ConvKind),
    Ready 0x10 tag p s →
    p.length = 16 →
    u8 p 0 = n.val →
    u8 p 1 ≤ 1 →
    u8 p 2 = input.code →
    u8 p 3 = divider.code →
    u8 p 4 = kind.code →
    (kind.code = 1 → u8 p 5 = kind.averageByte) →
    u8 p 8 ≤ 1 →
    u8 p 11 ≤ 1 →
    (n.val < 8 → u8 p 1 = 1 ∧ ScanSettings.cold.slots[n].input = input ∧ ScanSettings.cold.slots[n].divider = divider ∧
      ScanSettings.cold.slots[n].kind = kind) →
    ∃ t, exec (.setSlot tag p) s = .next t ∧
      (let low : Option Nat := if u8 p 8 = 1 then some (min (u16 p 9) 20000) else none
       let high : Option Nat := if u8 p 11 = 1 then some (max (low.getD 0) (min (u16 p 12) 20000)) else none
       let new : SlotSettings := {
         enabled := decide (u8 p 1 = 1), input := input, divider := divider, kind := kind,
         tolerance := max 1 (min (u8 p 6) 64), maximum := max 2 (min (u8 p 7) 16),
         low := low, high := high, hysteresis := min (u16 p 14) 1000 }
       let old : SlotSettings := s.store.settings.scan.slots[n]
       let moved : Prop := new.tolerance ≠ u8 p 6 ∨ new.maximum ≠ u8 p 7 ∨ (∃ v ∈ low, v ≠ u16 p 9) ∨
         (∃ v ∈ high, v ≠ u16 p 12) ∨ new.hysteresis ≠ u16 p 14
       (t = { State.replied s 0x10 tag p ((if moved then 1 else 0) :: le8 new.tolerance ++ le8 new.maximum ++
                le16 (low.getD 0) ++ le16 (high.getD 0) ++ le16 new.hysteresis) with
          store := Store.withWord { s.store with
            settings := { s.store.settings with scan := { s.store.settings.scan with
              slots := s.store.settings.scan.slots.set n new } } },
          scanner := (if s.scanner.conv = .slot n s.scanner.conv.codes ∧ (old.enabled ≠ new.enabled ∨ old.input ≠ input ∨
              old.divider ≠ divider ∨ old.kind ≠ kind ∨ old.tolerance ≠ new.tolerance ∨ old.maximum ≠ new.maximum)
            then Scanner.leaves { s.scanner with slots := t.scanner.slots }
              { s.store.settings.scan with slots := s.store.settings.scan.slots.set n new } n s.timeBase
            else { s.scanner with slots := t.scanner.slots }) } ∧
        (∀ m ∈ List.finRange 16, m ≠ n → t.scanner.slots[m] = s.scanner.slots[m]) ∧
        t.scanner.slots[n] =
          (if 8 ≤ n.val ∧ (old.input ≠ input ∨ old.divider ≠ divider ∨ old.kind ≠ kind ∨
              old.tolerance ≠ new.tolerance ∨ old.maximum ≠ new.maximum) then
             { code := 0, mv := 0, valid := false, unsettled := false, degraded := false, count := 0,
               limit := .unknown, crossed := s.scanner.slots[n].crossed }
           else if old.low ≠ low ∨ old.high ≠ high ∨ old.hysteresis ≠ new.hysteresis then
             { s.scanner.slots[n] with limit := .unknown }
           else s.scanner.slots[n])))

/-- GET_SLOT, GET_LOCKS and GET_CURVE report a slot's settings and limit state, both locks and the whole curve, and change nothing (R40, R106, R142). -/
def Obligations.ReportsChangeNothing : Prop :=
  ∀ (s : State) (tag : Byte) (n : Fin 16) (k : Byte),
    (Ready 0x11 tag [k] s → 15 < k.toNat →
            exec (.getSlot tag [k]) s = .next (s.replied 0x11 tag [k] [6])) ∧
      (Ready 0x11 tag [BitVec.ofNat 8 n.val] s →
            ∃ t, exec (.getSlot tag [BitVec.ofNat 8 n.val]) s = .next t ∧ (let c : SlotSettings := s.store.settings.scan.slots[n]
         let body : List Byte := ([BitVec.ofNat 8 n.val, if c.enabled then 1 else 0] : List Byte) ++ le8 c.input.code ++ le8 c.divider.code ++
           le8 c.kind.code ++ le8 (match c.kind with | .average k => k.count | _ => 0) ++ le8 c.tolerance ++ le8 c.maximum ++
           (match c.low with | some v => le8 1 ++ le16 v | none => le8 0 ++ le16 0) ++
           (match c.high with | some v => le8 1 ++ le16 v | none => le8 0 ++ le16 0) ++ le16 c.hysteresis ++
           le8 (match s.scanner.slots[n].limit with | .unknown => 0 | .inside => 1 | .above => 2 | .below => 3)
         body.length = 17 ∧ t = s.replied 0x11 tag [BitVec.ofNat 8 n.val] (0 :: body))) ∧
      (Ready 0x29 tag [] s →
            ∃ t, exec (.getLocks tag []) s = .next t ∧ (let record : Bay → List Byte := fun y =>
           let l := s.locks.get y;
           [(match y with | .a => 1 | .b => 2 : Byte),
           BitVec.ofNat 8 (l.reasons.sole.toNat + 2 * l.reasons.transfer.toNat + 4 * l.reasons.drop.toNat + 8 * l.reasons.host.toNat),
           (match l.state with | .free => 0 | .engaging _ => 1 | .locked => 2 | .unlocking _ => 3 | .jammed _ => 4 : Byte),
           (match l.state with | .jammed .engage => 1 | .jammed .release => 2 | .jammed .slipped => 3 | _ => 0 : Byte),
           BitVec.ofNat 8 (l.drive.toNat + 2 * l.sense.toNat + 4 * l.reasons.host.toNat),
           BitVec.ofNat 8 (match l.state with
           | .engaging since => max 1 (50 - (s.timeBase - since).toNat)
           | .unlocking since => max 1 (50 - (s.timeBase - since).toNat)
           | _ => 0)]
         t = s.replied 0x29 tag [] (0 :: record .a ++ record .b) ∧ (0 :: record .a ++ record .b).length = 13 ∧
        snapshot s .lock = record .a ++ record .b)) ∧
      (Ready 0x32 tag [] s →
            ∃ t, exec (.getCurve tag []) s = .next t ∧ (let reply : List Byte := ((0 : Byte) :: le8 s.store.settings.backlight.curve.length ++
           s.store.settings.backlight.curve.flatMap fun q => le32 (q.lux * 1024 + q.level))
         t = s.replied 0x32 tag [] reply ∧ (s.store.settings.backlight.curve.length = 12 → reply.length = 50)))

/-- SET_SCAN stores period and switch, SET_TEMP_CAL the calibration, which delivers a temperature if slot 6 is valid (section 2.3, section 2.5, section 2.7). Where the spec leaves a point open it states the model's choice: log 31. -/
def Obligations.ScanRequests : Prop :=
  ∀ (s : State) (tag : Byte) (p : List Byte) (n : Fin 16) (codes : List Nat),
    (Ready 0x12 tag p s → p.length = 3 → u8 p 2 ≤ 1 → (u8 p 2 = 1 ∨ ∀ m ∈ List.finRange 16, 8 ≤ m.val → s.scanner.conv ≠ .slot m s.scanner.conv.codes) →
            exec (.setScan tag p) s = .next (State.replied { s with store := Store.withWord { s.store with
            settings := { s.store.settings with scan := { s.store.settings.scan with
              period := max 2 (min (u16 p 0) 100), hostScan := decide (u8 p 2 = 1) } } } } 0x12 tag p
            ((if 2 ≤ u16 p 0 ∧ u16 p 0 ≤ 100 then 0 else 1) :: le16 (max 2 (min (u16 p 0) 100))))) ∧
      (Ready 0x12 tag p s → p.length = 3 → u8 p 2 = 0 → s.scanner.conv = .slot n codes → 8 ≤ n.val →
            exec (.setScan tag p) s = .next (State.replied { s with
            store := Store.withWord { s.store with
              settings := { s.store.settings with scan := { s.store.settings.scan with
                period := max 2 (min (u16 p 0) 100), hostScan := false } } },
            scanner := Scanner.leaves s.scanner { s.store.settings.scan with
              period := max 2 (min (u16 p 0) 100), hostScan := false } n s.timeBase } 0x12 tag p
            ((if 2 ≤ u16 p 0 ∧ u16 p 0 ≤ 100 then 0 else 1) :: le16 (max 2 (min (u16 p 0) 100))))) ∧
      (Ready 0x15 tag p s → p.length = 4 →
            ∃ t, exec (.setTempCal tag p) s = .next t ∧ ((t = { s.answered t 0x15 tag p
              ((if u16 p 0 ≤ 2000 ∧ 100 ≤ u16 p 2 ∧ u16 p 2 ≤ 4000 then 0 else 1) ::
                le16 (min (u16 p 0) 2000) ++ le16 (max 100 (min (u16 p 2) 4000))) with
            store := Store.withWord { s.store with
              settings := { s.store.settings with scan := { s.store.settings.scan with
                zeroMv := min (u16 p 0) 2000, gain := max 100 (min (u16 p 2) 4000) } } },
            backlight := t.backlight } ∧
          (s.scanner.slots[6].valid = false → t.backlight = s.backlight ∧ t.link.notices = s.link.notices) ∧
          (s.scanner.slots[6].valid = true → t.backlight.temperature =
            (if s.scanner.slots[6].mv < 50 ∨ 2450 < s.scanner.slots[6].mv ∨ s.scanner.ref = .degraded then none
             else some (max (-400) (min 1500 (Int.tdiv (((s.scanner.slots[6].mv : Int) -
               (min (u16 p 0) 2000 : Nat)) * (max 100 (min (u16 p 2) 4000) : Nat)) 1000))))))))

/-- READ_RESULTS returns the slots from first on, with first and count clamped, and then clears their crossed flags (section 2.5). -/
def Obligations.ReadResultsReturns : Prop :=
  ∀ (s : State) (tag : Byte) (p : List Byte),
    Ready 0x13 tag p s →
    p.length = 2 →
    ∃ t, exec (.readResults tag p) s = .next t ∧
      (let first : Nat := min (u8 p 0) 15
       let count : Nat := min (max 1 (min (u8 p 1) 7)) (16 - first)
       (t = { State.replied s 0x13 tag p ((if first = u8 p 0 ∧ count = u8 p 1 then 0 else 1) ::
            le8 first ++ le8 count ++
              ((List.finRange 16).filter fun i => decide (first ≤ i.val ∧ i.val < first + count)).flatMap fun i =>
                let r := s.scanner.slots[i]; le8 i.val ++ le16 r.code ++ le16 r.mv ++
                [flagByte [r.valid, r.unsettled, r.degraded, r.crossed]] ++ le8 r.count ++ le8 r.limit.code) with
          scanner := { s.scanner with slots := t.scanner.slots } } ∧
        ∀ n ∈ List.finRange 16, t.scanner.slots[n] =
          (if first ≤ n.val ∧ n.val < first + count then { s.scanner.slots[n] with crossed := false }
           else s.scanner.slots[n])))

/-- SPOT_READ starts at once or after the slot in progress; its end makes the reply ready and lets the cycle go on (section 2.5). Where the spec leaves a point open it states the model's choice: log 31. -/
def Obligations.SpotReadRuns : Prop :=
  ∀ (s : State) (tag : Byte) (p : List Byte) (input : Input) (divider : Divider) (n : Fin 16) (codes : List Nat) (code : BitVec 12) (r : Request) (rest : List Request),
    (Ready 0x14 tag p s → p.length = 2 → u8 p 0 = input.code → u8 p 1 = divider.code → s.scanner.conv = .idle →
            exec (.spotRead tag p) s = .next (finish { s with
            scanner := { s.scanner with conv := .spot input divider none },
            link := { s.link with
              queue := { kind := 0x14, tag := tag, payload := p, served := true } :: s.link.queue.tail } })) ∧
      (Ready 0x14 tag p s → p.length = 2 → u8 p 0 = input.code → u8 p 1 = divider.code → s.scanner.conv = .slot n codes →
            exec (.spotRead tag p) s = .next (finish { s with
            scanner := { s.scanner with spot := some { input := input, divider := divider } },
            link := { s.link with
              queue := { kind := 0x14, tag := tag, payload := p, served := true } :: s.link.queue.tail } })) ∧
      (s.supply = .run → s.link.queue = r :: rest → s.scanner.conv = .spot input divider none →
            exec (.spotConversionEnd code) s = .next (finish { s with
            scanner := (if s.scanner.cycleDue then { s.scanner with
                period := some { since := s.timeBase, length := s.store.settings.scan.period }, cycleDue := false,
                conv := .slot 0 [] }
              else { s.scanner with conv := .idle }),
            link := { s.link with replies := s.link.replies ++ [replyTo r.kind r.tag
              (0 :: le16 code.toNat ++ le16 (millivolts code.toNat divider) ++
                [if s.scanner.ref = .degraded then 1 else 0])] } })) ∧
      (s.supply = .run → s.link.queue = r :: rest → s.scanner.conv = .spot input divider (some n) →
            exec (.spotConversionEnd code) s = .next (finish { s with
            scanner := Scanner.goesOn s.scanner s.store.settings.scan (n.val + 1) s.timeBase,
            link := { s.link with replies := s.link.replies ++ [replyTo r.kind r.tag
              (0 :: le16 code.toNat ++ le16 (millivolts code.toNat divider) ++
                [if s.scanner.ref = .degraded then 1 else 0])] } })) ∧
      (s.supply = .run → s.scanner.conv = .slot n codes → s.store.settings.scan.slots[n].kind = .single → s.scanner.spot = some ⟨input, divider⟩ →
            ∃ t, exec (.conversionEnd code) s = .next t ∧ (t.scanner.conv = .spot input divider
              ((slotFrom s.store.settings.scan (n.val + 1)).map fun _ => n) ∧
            t.scanner.spot = none ∧ t.scanner.slots[n].valid = true ∧ t.scanner.slots[n].code = code.toNat ∧
            t.scanner.period = s.scanner.period ∧ t.scanner.cycleDue = s.scanner.cycleDue ∧
            (∀ m ∈ List.finRange 16, m ≠ n → t.scanner.slots[m] = s.scanner.slots[m]) ∧
            t.link = { s.link with notices := t.link.notices, ltx := t.link.ltx, wakeN := t.link.wakeN }))

/-- CONVERSION_END of a host slot: SINGLE, AVERAGE and SETTLE end as R30 and R31 say, the result is compared with the limits, and the converter goes on (section 2.1, section 2.2, section 2.3, section 2.4). Where the spec leaves a point open it states the model's choice: log 31. -/
def Obligations.HostSlotConverts : Prop :=
  ∀ (s : State) (n : Fin 16) (codes : List Nat) (code : BitVec 12),
    s.supply = .run →
    s.scanner.conv = .slot n codes →
    8 ≤ n.val →
    ∃ t, exec (.conversionEnd code) s = .next t ∧
      (let c : SlotSettings := s.store.settings.scan.slots[n]
       let all : List Nat := code.toNat :: codes
       let e : Option (Nat × Nat × Bool) := (match c.kind with
         | .single => some (code.toNat, 1, false)
         | .average k => if k.count ≤ all.length then
         some ((all.sum + all.length / 2) / all.length, k.count, false) else none
         | .settle => match codes with
         | [] => none
         | old :: _ =>
         if code.toNat ≤ old + c.tolerance ∧ old ≤ code.toNat + c.tolerance then
         some (code.toNat, all.length, false)
         else if c.maximum ≤ all.length then some (code.toNat, all.length, true) else none)
       let v : Nat × Nat × Bool := e.getD (0, 0, false)
       let mv : Nat := (v.1 * 2500 * c.divider.factor + 2047) / 4095
       let old : LimitState := s.scanner.slots[n].limit
       let new : LimitState := if c.low = none ∧ c.high = none then old
         else if (∃ h ∈ c.high, h < mv) ∧ old ≠ .above then .above
         else if ∃ l ∈ c.low, mv < l then .below
         else if old = .above ∧ ¬ ∃ h ∈ c.high, mv + c.hysteresis ≤ h then .above
         else if old = .below ∧ ¬ ∃ l ∈ c.low, l + c.hysteresis ≤ mv then .below
         else .inside
       let ended : Scanner := { s.scanner with slots := s.scanner.slots.set n {
         code := v.1, mv := mv, valid := true, unsettled := v.2.2, degraded := decide (s.scanner.ref = .degraded),
         count := v.2.1, limit := new, crossed := s.scanner.slots[n].crossed || decide (old ≠ .unknown ∧ new ≠ old) } }
       ((e = none → t = finish { s with scanner := { s.scanner with conv := .slot n all } }) ∧
        (e ≠ none →
          t = { s.acted t with scanner := Scanner.leaves ended s.store.settings.scan n s.timeBase } ∧
          (old ≠ .unknown → new ≠ old → Posted s t (.limitCrossing n)))))

/-- The period timer begins the cycle or makes it due; each slot 7 result counts toward DEGRADED or back to NORMAL, three in a row (section 2.3, section 2.4, section 2.6, section 3.4, section 3.5, section 6.3). Where the spec leaves a point open it states the model's choice: log 31. -/
def Obligations.CyclesAndReference : Prop :=
  ∀ (s : State) (timer : Timer) (codes : List Nat) (code : BitVec 12),
    (s.supply = .run → s.scanner.period = some timer → timer.length ≤ (s.timeBase - timer.since).toNat → s.scanner.conv = .idle →
            exec (.scanPeriodExpiry) s = .next (finish { s with scanner := { s.scanner with
            period := some { since := s.timeBase, length := s.store.settings.scan.period },
            cycleDue := false,
            conv := .slot 0 [] } })) ∧
      (s.supply = .run → s.scanner.period = some timer → timer.length ≤ (s.timeBase - timer.since).toNat → s.scanner.conv ≠ .idle →
            exec (.scanPeriodExpiry) s = .next (finish { s with scanner := { s.scanner with period := none, cycleDue := true } })) ∧
      (s.supply = .run → s.scanner.period = some timer → (s.timeBase - timer.since).toNat < timer.length →
            exec (.scanPeriodExpiry) s = .next (finish s)) ∧
      (s.supply = .run → s.scanner.conv = .slot 7 codes → s.store.settings.scan.slots[7].kind = .single → s.store.settings.scan.slots[7].divider = .by1 → s.scanner.outsideCount ≤ 2 → s.scanner.insideCount ≤ 2 →
            ∃ t, exec (.conversionEnd code) s = .next t ∧ (let mv : Nat := (code.toNat * 2500 + 2047) / 4095
         let out : Bool := decide (mv < 980 ∨ 1020 < mv)
         let fixed : AmbientSettings := s.store.settings.ambient
         (
          (s.scanner.ref = .normal →
            t.scanner.insideCount = (if t.scanner.ref = .degraded then 0 else s.scanner.insideCount) ∧
            t.scanner.outsideCount = (if out = true ∧ s.scanner.outsideCount < 2 then s.scanner.outsideCount + 1 else 0) ∧
            (t.scanner.ref = .degraded ↔ out = true ∧ s.scanner.outsideCount = 2)) ∧
          (s.scanner.ref = .degraded →
            t.scanner.outsideCount = (if t.scanner.ref = .normal then 0 else s.scanner.outsideCount) ∧
            t.scanner.insideCount = (if out = false ∧ s.scanner.insideCount < 2 then s.scanner.insideCount + 1 else 0) ∧
            (t.scanner.ref = .normal ↔ out = false ∧ s.scanner.insideCount = 2)) ∧
          (t.scanner.ref ≠ s.scanner.ref → t.scanner.outsideCount = 0 ∧ t.scanner.insideCount = 0 ∧
            Posted s t (if t.scanner.ref = .degraded then .limitDegraded else .limitRecovered)) ∧
          (s.scanner.ref = .normal → t.scanner.ref = .degraded →
            t.backlight.temperature = none ∧
            t.ambient = (if s.ambient.validity = .invalid then s.ambient else { s.ambient with
              validity := .invalid, seedPending := true,
              filter := (if s.ambient.lidClosed = false ∧ fixed.fallback = .fixed
                then some { acc := fixed.fixedLux * 4 * 2 ^ fixed.k, avg := fixed.fixedLux * 4 } else s.ambient.filter) }) ∧
            (s.ambient.validity ≠ .invalid → Posted s t .ambientValidity) ∧
            (∀ x ∈ allSources, t.src x = (s.src x).paused s.timeBase)) ∧
          (s.scanner.ref = .degraded → t.scanner.ref = .normal →
            t.ambient = s.ambient ∧ t.backlight = s.backlight ∧
            (∀ x ∈ allSources, t.src x = (s.src x).resumed s.timeBase)) ∧
          SlotEnds s t 7 code.toNat mv 1 (decide (t.scanner.ref = .degraded)) ∧
          t = { s.acted t with
            scanner := Scanner.leaves { s.scanner with
              slots := t.scanner.slots, ref := t.scanner.ref, outsideCount := t.scanner.outsideCount,
              insideCount := t.scanner.insideCount } s.store.settings.scan 7 s.timeBase,
            power := { s.power with src := t.power.src }, ambient := t.ambient, backlight := t.backlight } ∧
          (t.scanner.ref = s.scanner.ref → t.power = s.power ∧ t.ambient = s.ambient ∧ t.backlight = s.backlight))))

/-- A presence pin makes the source's change pend, and the change is taken when the hold time, lengthened by the guard for a bay, has run (section 3.3, section 3.2). -/
def Obligations.PresenceMoves : Prop :=
  ∀ (s : State) (x : Source) (level : Bool) (m : Moment),
    (s.supply ≠ .run →
            exec (.presPinChange x level) s = .next ({ s with pins := { s.pins with pres := s.pins.pres.set x level } })) ∧
      (s.supply = .run → (s.src x).state = .disabled →
            exec (.presPinChange x level) s = .next (finish { s with pins := { s.pins with pres := s.pins.pres.set x level } })) ∧
      (s.supply = .run → (s.src x).state ≠ .disabled →
            ∃ t, exec (.presPinChange x level) s = .next t ∧ (let volts : Bool := decide (∃ v ∈ (s.src x).lastCounted, (s.srcSettings x).threshold < v)
         let present : Bool := (match (s.srcSettings x).presence with
           | .pin => level | .voltage => volts | .both => level && volts | .forced => true)
         let hold : Nat := (match x with
           | .dc => 20
           | .a => if s.drop.contactGuard then 5 + s.store.settings.power.bays.a.rideThrough else 5
           | .b => if s.drop.contactGuard then 5 + s.store.settings.power.bays.b.rideThrough else 5)
         let absorbed : Bool := x != .dc && (s.src x).presence &&
           (s.src x).pendingPresence.any fun m => decide (5 ≤ (s.timeBase - m).toNat ∧ (s.timeBase - m).toNat < hold)
         t = finish { s with
            pins := { s.pins with pres := s.pins.pres.set x level },
            power := { s.power with src := s.power.src.set x { s.src x with pendingPresence :=
              (if present = (s.src x).presence then none else some ((s.src x).pendingPresence.getD s.timeBase)) } },
            drop := { s.drop with record :=
              (if present = (s.src x).presence ∧ absorbed = true
                then s.drop.record.map fun r => { r with guardUsed := true } else s.drop.record) } })) ∧
      (s.supply = .run → (s.src x).pendingPresence = some m → (match x with
        | .dc => 20
        | .a => if s.drop.contactGuard then 5 + s.store.settings.power.bays.a.rideThrough else 5
        | .b => if s.drop.contactGuard then 5 + s.store.settings.power.bays.b.rideThrough else 5) ≤ (s.timeBase - m).toNat → (s.src x).presence = true →
            ∃ t, exec (.presenceHoldExpiry x) s = .next t ∧ (t = { s.acted t with power := t.power, locks := t.locks, backlight := t.backlight } ∧
            t.src x = { s.src x with
              state := .absent, presence := false, pendingPresence := none, switch := false, qualify := .stopped,
              violation := .stopped, currentCount := 0, drained := false, detachSeen := true, goodWatch := none } ∧
            Posted s t (.sourceDetach x))) ∧
      (s.supply = .run → (s.src x).pendingPresence = some m → (match x with
        | .dc => 20
        | .a => if s.drop.contactGuard then 5 + s.store.settings.power.bays.a.rideThrough else 5
        | .b => if s.drop.contactGuard then 5 + s.store.settings.power.bays.b.rideThrough else 5) ≤ (s.timeBase - m).toNat → (s.src x).presence = false → (s.src x).state = .absent →
            ∃ t, exec (.presenceHoldExpiry x) s = .next t ∧ (let fault : Option FaultKind := (match (s.srcSettings x).faultSelect with
           | .pin => if s.pins.flt.get x then some .overcurrentPin else none
           | .shared => if s.pins.fltShared then some .shared else none
           | .forced => some .forced
           | _ => none)
         let goal : SourceState := (match fault with
           | some k => .fault k
           | none => if (s.src x).latchOpen then .releasingOpen else .qualify)
         t = { s.acted t with power := t.power, locks := t.locks, backlight := t.backlight } ∧
            (t.src x).state = goal ∧ (t.src x).presence = true ∧ (t.src x).pendingPresence = none ∧
            (t.src x).switch = false ∧ (t.src x).attachSeen = true ∧ (t.src x).violation = .stopped ∧
            (goal = .qualify → (t.src x).qualify = (if s.scanner.ref = .degraded
              then .paused 0 (s.srcSettings x).qualifyTime else .running s.timeBase (s.srcSettings x).qualifyTime)) ∧
            Posted s t (.sourceAttach x)))

/-- The qualify timer takes QUALIFY to STANDBY; the violation timer takes STANDBY back to QUALIFY with a fresh timer (section 3.4, section 4.3). -/
def Obligations.QualifyAndViolation : Prop :=
  ∀ (s : State) (x : Source) (since : Moment) (length : Nat) (side : Side),
    s.supply = .run →
    faultCondition (s.srcSettings x) s.pins x = none →
    (s.src x).latchOpen = false →
    ((s.src x).state = .qualify → (s.src x).qualify = .running since length → length ≤ (s.timeBase - since).toNat →
            ∃ t, exec (.qualifyExpiry x) s = .next t ∧ (t = { s.acted t with power := t.power, locks := t.locks, backlight := t.backlight } ∧ (t.src x).qualify = .stopped ∧
            ((t.src x).state = .standby ∨ (t.src x).state = .activeClosing ∨ (t.src x).state = .activeOn) ∧
            Posted s t (.sourceState x) ∧
            (transferWaits x s = true →
              t.power = { s.power with
                src := s.power.src.set x { s.src x with
                  state := .standby, switch := false, qualify := .stopped, violation := .stopped, currentCount := 0,
                  goodWatch := none },
                joining := t.power.joining, condition := t.power.condition }))) ∧
      ((s.src x).state = .standby → (s.src x).violation = .running since side → (s.srcSettings x).violationTime ≤ (s.timeBase - since).toNat →
            ∃ t, exec (.standbyViolationExpiry x) s = .next t ∧ (t = { s.acted t with power := t.power, locks := t.locks, backlight := t.backlight } ∧
            t.src x = { s.src x with
              state := .qualify, switch := false, violation := .stopped, currentCount := 0, goodWatch := none,
              qualify := (if s.scanner.ref = .degraded then .paused 0 (s.srcSettings x).qualifyTime
                else .running s.timeBase (s.srcSettings x).qualifyTime) } ∧
            Posted s t (.sourceState x)))

/-- Fault lines, a window fault, and a switch watch that runs out take a source to FAULT, unlike released pins, which only take their level (section 3.4, section 3.5, section 3.6, section 8.4). -/
def Obligations.FaultsTaken : Prop :=
  ∀ (s : State) (x : Source) (since : Moment) (side : Side) (line : FaultLine),
    (s.supply = .run → (s.src x).state = .activeOn → (s.src x).violation = .running since side → (s.srcSettings x).violationTime + (match x with
            | .dc => 0
            | .a => if s.drop.contactGuard then s.store.settings.power.bays.a.rideThrough else 0
            | .b => if s.drop.contactGuard then s.store.settings.power.bays.b.rideThrough else 0) ≤
            (s.timeBase - since).toNat →
            ∃ t, exec (.windowFaultExpiry x) s = .next t ∧ (t = { s.acted t with power := t.power, locks := t.locks, backlight := t.backlight } ∧
            t.src x = (s.src x).faulted (if side = .low then .windowLow else .windowHigh) ∧
            Posted s t (.sourceFault x) ∧ Posted s t (.sourceState x))) ∧
      (s.supply = .run →
            ∃ t, exec (.faultPinAssert line) s = .next t ∧ (t = { s.acted t with
              pins := (match line with
                | .own y => { s.pins with flt := s.pins.flt.set y true }
                | .shared => { s.pins with fltShared := true }),
              power := t.power, locks := t.locks, backlight := t.backlight } ∧
            (∀ y ∈ allSources,
              ((s.srcSettings y).faultSelect = .pin ∧ line = .own y) ∨
                ((s.srcSettings y).faultSelect = .shared ∧ line = .shared) →
              (s.src y).state.takesFaults = true →
              t.src y = (s.src y).faulted (if line = .shared then .shared else .overcurrentPin) ∧
                Posted s t (.sourceFault y) ∧ Posted s t (.sourceState y)) ∧
            (∀ y ∈ allSources, (s.src y).state.takesFaults = false → t.src y = s.src y))) ∧
      (s.supply ≠ .run →
            exec (.faultPinAssert line) s = .next ({ s with pins := (match line with
            | .own y => { s.pins with flt := s.pins.flt.set y true }
            | .shared => { s.pins with fltShared := true }) })) ∧
      (s.supply = .run → (s.src x).goodWatch = some since → 5 ≤ (s.timeBase - since).toNat → (s.src x).state = .activeClosing ∨ (s.src x).state = .releasingHeld →
            ∃ t, exec (.switchWatchExpiry x) s = .next t ∧ (t = { s.acted t with power := t.power, locks := t.locks, backlight := t.backlight } ∧
            t.src x = (s.src x).faulted .switchFault ∧
            Posted s t (.sourceFault x) ∧ Posted s t (.sourceState x))) ∧
      (s.supply = .run →
            exec (.faultPinRelease line) s = .next (finish { s with pins := (match line with
            | .own y => { s.pins with flt := s.pins.flt.set y false }
            | .shared => { s.pins with fltShared := false }) })) ∧
      (s.supply = .run →
            exec (.goodRelease x) s = .next (finish { s with pins := { s.pins with good := s.pins.good.set x false } })) ∧
      (s.supply = .run →
            exec (.mintRelease) s = .next (finish { s with pins := { s.pins with mint := false } })) ∧
      (s.supply ≠ .run →
            exec (.faultPinRelease line) s = .next ({ s with pins := (match line with
            | .own y => { s.pins with flt := s.pins.flt.set y false }
            | .shared => { s.pins with fltShared := false }) })) ∧
      (s.supply ≠ .run →
            exec (.goodRelease x) s = .next ({ s with pins := { s.pins with good := s.pins.good.set x false } })) ∧
      (s.supply ≠ .run →
            exec (.mintRelease) s = .next ({ s with pins := { s.pins with mint := false } }))

/-- GOOD_x within its watch makes ACTIVE/CLOSING ACTIVE/ON: with an outgoing switch closed the overlap begins, with none the transfer ends (section 3.6, section 4.4, section 4.5). -/
def Obligations.GoodConfirms : Prop :=
  ∀ (s : State) (x : Source) (m : Moment) (tr : Transfer) (bay : Bay),
    (s.supply = .run → (s.src x).state = .activeClosing → (s.src x).goodWatch = some m → faultCondition (s.srcSettings x) s.pins x = none → s.power.transfer = some tr → tr.incoming = x → tr.step = .closingIncoming → tr.outgoing.get x = false → (∃ y ∈ allSources, tr.outgoing.get y = true ∧ (s.src y).state.closed = true) →
            ∃ t, exec (.goodConfirm x) s = .next t ∧ (t = { s.acted t with
                pins := { s.pins with good := s.pins.good.set x true },
                power := t.power, locks := t.locks, backlight := t.backlight } ∧
            t.power = { s.power with
              src := s.power.src.set x { s.src x with
                state := .activeOn, switch := true, qualify := .stopped, violation := .stopped, goodWatch := none },
              transfer := some { tr with
                step := .overlap { since := s.timeBase, length := s.store.settings.power.overlap } },
              joining := t.power.joining, condition := .transfer })) ∧
      (s.supply = .run → (s.src .dc).state = .activeClosing → (s.src .dc).goodWatch = some m → faultCondition (s.srcSettings .dc) s.pins .dc = none → s.power.transfer = some tr → tr.incoming = .dc → tr.outgoing.get .dc = false → (∀ y ∈ allSources, tr.outgoing.get y = true → (s.src y).state.closed = false) →
            ∃ t, exec (.goodConfirm .dc) s = .next t ∧ (t.power.transfer = none ∧ (t.src .dc).state = .activeOn ∧ (t.src .dc).switch = true ∧ Posted s t .transferDone ∧
            t = { s.acted t with
                pins := { s.pins with good := s.pins.good.set .dc true },
                power := t.power, locks := t.locks, backlight := t.backlight })) ∧
      (s.supply = .run → (s.src x).state = .activeClosing → (s.src x).goodWatch = some m → faultCondition (s.srcSettings x) s.pins x = none → s.power.transfer = some tr → tr.incoming = x → tr.outgoing.get x = false → (∀ y ∈ allSources, tr.outgoing.get y = true → (s.src y).state.closed = false) →
            ∃ t, exec (.goodConfirm x) s = .next t ∧ (let ended : Power := { s.power with
           src := s.power.src.set x { s.src x with
           state := .activeOn, switch := true, qualify := .stopped, violation := .stopped, goodWatch := none },
           transfer := none }
         t = { s.acted t with
                pins := { s.pins with good := s.pins.good.set x true },
                power := t.power, locks := t.locks, backlight := t.backlight } ∧ Posted s t .transferDone ∧
            (s.power.joining = none → ended.preferred s.store.settings.power.policy = ended.feeding →
              t.power = { ended with deferred := false, condition := t.power.condition } ∧ Posted s t (.sourceState x) ∧
              (∀ y ∈ allBays, (t.locks.get y).reasons.transfer = false)))) ∧
      (s.supply = .run → s.power.joining = some bay → (s.src (baySource bay)).state = .activeClosing → (s.src (baySource bay)).goodWatch = some m → faultCondition (s.srcSettings (baySource bay)) s.pins (baySource bay) = none → s.power.transfer = none → s.power.preferred s.store.settings.power.policy = s.power.feeding →
            ∃ t, exec (.goodConfirm (baySource bay)) s = .next t ∧ (t = { s.acted t with
                pins := { s.pins with good := s.pins.good.set (baySource bay) true },
                power := t.power, locks := t.locks, backlight := t.backlight } ∧
            t.power = { s.power with
              src := s.power.src.set (baySource bay) { s.src (baySource bay) with
                state := .activeOn, switch := true, qualify := .stopped, violation := .stopped, goodWatch := none },
              joining := none, deferred := false, condition := t.power.condition } ∧
            Posted s t (.sourceState (baySource bay)))) ∧
      (s.supply = .run → (s.src x).state = .releasingHeld → (s.src x).goodWatch = some m → s.power.transfer = none →
            ∃ t, exec (.goodConfirm x) s = .next t ∧ (t = { s.acted t with
                pins := { s.pins with good := s.pins.good.set x true },
                power := t.power, locks := t.locks, backlight := t.backlight } ∧
            t.power = { s.power with
              src := s.power.src.set x { s.src x with goodWatch := none },
              joining := t.power.joining, condition := t.power.condition })) ∧
      (s.supply ≠ .run →
            exec (.goodConfirm x) s = .next ({ s with pins := { s.pins with good := s.pins.good.set x true } }))

/-- A latch level pends for 2 ms; opening takes a bay to RELEASING, HELD if its switch is closed, else OPEN; closing takes HELD to ACTIVE and OPEN to QUALIFY (section 3.7, section 4.5). -/
def Obligations.LatchesMove : Prop :=
  ∀ (s : State) (bay : Bay) (opened : Bool) (m : Moment),
    (s.supply = .run →
            exec (.latchPinChange bay opened) s = .next (finish { s with
            pins := { s.pins with latch := s.pins.latch.set bay opened },
            power := { s.power with src := s.power.src.set (baySource bay) { s.src (baySource bay) with pendingLatch :=
              (if opened = (s.src (baySource bay)).latchOpen then none
              else some ((s.src (baySource bay)).pendingLatch.getD s.timeBase)) } } })) ∧
      (s.supply ≠ .run →
            exec (.latchPinChange bay opened) s = .next ({ s with pins := { s.pins with latch := s.pins.latch.set bay opened } })) ∧
      (s.supply = .run → (s.src (baySource bay)).pendingLatch = some m → 2 ≤ (s.timeBase - m).toNat → (s.src (baySource bay)).latchOpen = false → faultCondition (s.srcSettings (baySource bay)) s.pins (baySource bay) = none →
            ∃ t, exec (.latchDebounceExpiry bay) s = .next t ∧ (let x : Source := baySource bay
         t = { s.acted t with power := t.power, locks := t.locks, backlight := t.backlight } ∧ (t.src x).latchOpen = true ∧ (t.src x).pendingLatch = none ∧
            ((s.src x).state = .qualify ∨ (s.src x).state = .standby →
              (t.src x).state = .releasingOpen ∧ (t.src x).qualify = .stopped ∧ (t.src x).violation = .stopped ∧
                Posted s t (.sourceState x)) ∧
            ((s.src x).state = .activeOn ∨ (s.src x).state = .activeClosing →
              ((t.src x).state = .releasingHeld ∨ (t.src x).state = .releasingOpen) ∧ Posted s t (.sourceState x) ∧
              (transferWaits x s = true →
                t.power = { s.power with
                  src := s.power.src.set x { s.src x with
                    state := .releasingHeld, switch := true, latchOpen := true, pendingLatch := none,
                    qualify := .stopped, violation := .stopped, currentCount := 0 },
                  joining := t.power.joining, condition := .transfer })) ∧
            ((s.src x).state = .disabled ∨ (s.src x).state = .absent ∨ (s.src x).state.code = 6 ∨
                (s.src x).state = .releasingOpen →
              t.src x = { s.src x with latchOpen := true, pendingLatch := none }) ∧
            ((s.locks.get bay).state = .locked → Posted s t (.latchWhileLocked x)) ∧
            ((s.locks.get bay).state ≠ .locked → s.holds (.latchWhileLocked x) = false →
              t.holds (.latchWhileLocked x) = false))) ∧
      (s.supply = .run → (s.src (baySource bay)).pendingLatch = some m → 2 ≤ (s.timeBase - m).toNat → (s.src (baySource bay)).latchOpen = true → faultCondition (s.srcSettings (baySource bay)) s.pins (baySource bay) = none → (s.src (baySource bay)).state = .releasingOpen →
            ∃ t, exec (.latchDebounceExpiry bay) s = .next t ∧ (let x : Source := baySource bay
         t = { s.acted t with power := t.power, locks := t.locks, backlight := t.backlight } ∧
            t.src x = { s.src x with
              state := .qualify, switch := false, latchOpen := false, pendingLatch := none, violation := .stopped,
              currentCount := 0, goodWatch := none,
              qualify := (if s.scanner.ref = .degraded then .paused 0 (s.srcSettings x).qualifyTime
                else .running s.timeBase (s.srcSettings x).qualifyTime) } ∧
            Posted s t (.sourceState x))) ∧
      (s.supply = .run → (s.src (baySource bay)).pendingLatch = some m → 2 ≤ (s.timeBase - m).toNat → (s.src (baySource bay)).latchOpen = true → faultCondition (s.srcSettings (baySource bay)) s.pins (baySource bay) = none → (s.src (baySource bay)).state = .releasingHeld →
            ∃ t, exec (.latchDebounceExpiry bay) s = .next t ∧ (let x : Source := baySource bay
         let r : SourceRun := { s.src x with
           state := (if (s.src x).goodWatch.isSome = true then .activeClosing else .activeOn), switch := true, latchOpen := false,
           pendingLatch := none, qualify := .stopped, violation := .stopped, currentCount := 0 }
         t = { s.acted t with power := t.power, locks := t.locks, backlight := t.backlight } ∧ (t.src x).latchOpen = false ∧ (t.src x).pendingLatch = none ∧
            ((t.src x).state = .activeClosing ∨ (t.src x).state = .activeOn ∨ (t.src x).state = .standby) ∧
            (t.src x).switch = (t.src x).state.closed ∧ Posted s t (.sourceState x) ∧
            (transferWaits x s = true →
              t.power = { s.power with
                src := s.power.src.set x r, joining := t.power.joining, condition := .transfer }) ∧
            ((s.power.transfer = none ∧ s.power.joining = none ∧ (∀ y ∈ allSources, y ≠ baySource bay → (s.src y).state.closed = false)) → t.src x = r)))

/-- Slots 0 to 4 and 6 deliver: last voltage and current, drained, the window timers, OVERCURRENT_SCAN, and the panel temperature (section 2.3, section 2.4, section 2.6, section 3.4, section 3.5, section 3.8). Where the spec leaves a point open it states the model's choice: log 46. -/
def Obligations.ReadingsDelivered : Prop :=
  ∀ (s : State) (x : Source) (bay : Bay) (code : BitVec 12) (n : Fin 16) (codes : List Nat),
    s.supply = .run →
    s.scanner.conv = .slot n codes →
    (n.val = (match x with | .dc => 0 | .a => 1 | .b => 2) → s.store.settings.scan.slots[n].kind = .single → s.store.settings.scan.slots[n].divider = .by8 →
            ∃ t, exec (.conversionEnd code) s = .next t ∧ (let mv : Nat := (code.toNat * 2500 * 8 + 2047) / 4095
         let c : SourceSettings := s.srcSettings x
         let degraded : Bool := decide (s.scanner.ref = .degraded)
         let low : Nat := (match x with
           | .dc => 0 | .a => s.store.settings.power.bays.a.lowThreshold | .b => s.store.settings.power.bays.b.lowThreshold)
         let drained : Bool := if degraded = true ∨ x = .dc then (s.src x).drained
           else if mv < low ∧ (s.src x).state.closed = true then true
           else if low + 400 < mv then false else (s.src x).drained
         let present : Bool := (match c.presence with
           | .pin => s.pins.pres.get x
           | .voltage => decide (c.threshold < mv)
           | .both => s.pins.pres.get x && decide (c.threshold < mv)
           | .forced => true)
         let absorbed : Bool := !degraded && x != .dc && (s.src x).presence && present && decide ((s.src x).state ≠ .disabled) &&
           (s.src x).pendingPresence.any fun m => decide (5 ≤ (s.timeBase - m).toNat ∧ (s.timeBase - m).toNat <
           5 + (if s.drop.contactGuard = true then (match x with
           | .dc => 0 | .a => s.store.settings.power.bays.a.rideThrough | .b => s.store.settings.power.bays.b.rideThrough) else 0))
         let side : Option Side := if mv < c.windowLow then some .low else if c.windowHigh < mv then some .high else none
         let watched : Bool := decide ((s.src x).state = .standby ∨ ((s.src x).state = .activeOn ∧ degraded = false))
         let timer : ViolationTimer := if watched = true
           then (match side, (s.src x).violation with
           | none, _ => .stopped
           | some d, .running since _ => .running since d
           | some d, .stopped => .running s.timeBase d)
           else (s.src x).violation
         t = { s.acted t with
                scanner := Scanner.leaves { s.scanner with slots := t.scanner.slots } s.store.settings.scan n s.timeBase,
                power := t.power, locks := t.locks, backlight := t.backlight,
                drop := { s.drop with record :=
                  (if absorbed = true then s.drop.record.map fun r => { r with guardUsed := true } else s.drop.record) } } ∧ SlotEnds s t n code.toNat mv 1 (decide (s.scanner.ref = .degraded)) ∧
            (t.src x).lastVoltage = mv ∧ (t.src x).drained = drained ∧
            (t.src x).lastCounted = (if degraded = true then (s.src x).lastCounted else some mv) ∧
            (drained ≠ (s.src x).drained → Posted s t (.sourceDrained x)) ∧
            (transferWaits x s = true ∨ (s.power.transfer = none ∧ drained = (s.src x).drained) →
              t.src x = { s.src x with
                lastVoltage := mv, drained := drained, violation := timer,
                lastCounted := (if degraded = true then (s.src x).lastCounted else some mv),
                pendingPresence := (if degraded = true ∨ (s.src x).state = .disabled then (s.src x).pendingPresence
                  else if present = (s.src x).presence then none
                  else some ((s.src x).pendingPresence.getD s.timeBase)),
                qualify := (if (s.src x).state = .qualify ∧ degraded = false ∧ side ≠ none
                  then .running s.timeBase c.qualifyTime else (s.src x).qualify) }) ∧
            (∀ y ∈ allSources, y ≠ x → (t.src y).lastVoltage = (s.src y).lastVoltage ∧
              (t.src y).lastCounted = (s.src y).lastCounted ∧ (t.src y).presence = (s.src y).presence))) ∧
      (n.val = (match bay with | .a => 3 | .b => 4) → s.store.settings.scan.slots[n].kind = .average .four → codes.length = 3 → (s.src (baySource bay)).currentCount ≤ 1 →
            ∃ t, exec (.conversionEnd code) s = .next t ∧ (let x : Source := baySource bay
         let mean : Nat := (code.toNat + codes.sum + 2) / 4
         let mv : Nat := (mean * 2500 * s.store.settings.scan.slots[n].divider.factor + 2047) / 4095
         let ma : Nat := mv * 10
         let watched : Bool := decide (s.scanner.ref = .normal ∧ (s.srcSettings x).faultSelect = .current ∧
           (s.src x).state.takesFaults = true)
         let above : Bool := decide ((s.store.settings.power.bays.get bay).overcurrent < ma)
         t = { s.acted t with
                scanner := Scanner.leaves { s.scanner with slots := t.scanner.slots } s.store.settings.scan n s.timeBase,
                power := t.power, locks := t.locks, backlight := t.backlight } ∧ SlotEnds s t n mean mv 4 (decide (s.scanner.ref = .degraded)) ∧
            (t.src x).lastCurrent = ma ∧
            (watched = true → above = true → (s.src x).currentCount = 1 →
              (t.src x).state = .fault .overcurrentScan ∧ (t.src x).switch = false ∧ (t.src x).currentCount = 0 ∧
                Posted s t (.sourceFault x)) ∧
            (watched = true → above = true → (s.src x).currentCount = 0 → s.power.transfer = none →
              t.src x = { s.src x with lastCurrent := ma, currentCount := 1 }) ∧
            (watched = true → above = false → s.power.transfer = none →
              t.src x = { s.src x with lastCurrent := ma, currentCount := 0 }) ∧
            (watched = false → s.power.transfer = none → t.src x = { s.src x with lastCurrent := ma }) ∧
            (∀ y ∈ allSources, y ≠ x → (t.src y).lastCurrent = (s.src y).lastCurrent))) ∧
      (n.val = 6 → s.store.settings.scan.slots[n].kind = .average .two → s.store.settings.scan.slots[n].divider = .by1 → codes.length = 1 →
            ∃ t, exec (.conversionEnd code) s = .next t ∧ (let mv : Nat := ((code.toNat + codes.sum + 1) / 2 * 2500 + 2047) / 4095
         let scan : ScanSettings := s.store.settings.scan
         let heat : Option Int := if mv < 50 ∨ 2450 < mv ∨ s.scanner.ref = .degraded then none
           else some (max (-400) (min 1500 (Int.tdiv (((mv : Int) - scan.zeroMv) * scan.gain) 1000)))
         let lit : Backlight := Backlight.settled { s.backlight with temperature := heat } s.store.settings.backlight
         t = { s.acted t with
                scanner := Scanner.leaves { s.scanner with slots := t.scanner.slots } s.store.settings.scan n s.timeBase,
                backlight := lit } ∧ SlotEnds s t n ((code.toNat + codes.sum + 1) / 2) mv 2 (decide (s.scanner.ref = .degraded)) ∧
            BindingPosted s t))

/-- GET_SOURCE returns the records of the selected sources and may clear their seen flags; CLEAR_FAULT takes sources out of FAULT (section 3.5, section 3.9). Where the spec leaves a point open it states the model's choice: log 16. -/
def Obligations.SourceRequests : Prop :=
  ∀ (s : State) (tag : Byte) (p : List Byte),
    u8 p 0 ≠ 0 →
    u8 p 0 < 8 →
    (Ready 0x21 tag p s → p.length = 2 → u8 p 1 ≤ 1 →
            ∃ t, exec (.getSource tag p) s = .next t ∧ (let chosen : List Source := allSources.filter fun x =>
           (match x with | .dc => u8 p 0 % 2 == 1 | .a => u8 p 0 / 2 % 2 == 1 | .b => u8 p 0 / 4 % 2 == 1)
         t = { State.replied s 0x21 tag p (0 :: chosen.flatMap fun x =>
                let r := s.src x;
                le8 (sourceCode x) ++ le8 r.state.code ++ le8 r.state.subcode ++ le8 r.state.faultCode ++
                  [flagByte [r.drained, r.attachSeen, r.detachSeen, r.presence, r.latchOpen, r.switch]] ++
                  le16 r.lastVoltage ++ le16 r.lastCurrent) with
              power := { s.power with src := t.power.src } } ∧
            (∀ x ∈ allSources, t.src x =
              (if u8 p 1 = 1 ∧ x ∈ chosen then { s.src x with attachSeen := false, detachSeen := false } else s.src x)))) ∧
      (Ready 0x22 tag p s → p.length = 1 →
            ∃ t, exec (.clearFault tag p) s = .next t ∧ (let chosen : List Source := allSources.filter fun x =>
           (match x with | .dc => u8 p 0 % 2 == 1 | .a => u8 p 0 / 2 % 2 == 1 | .b => u8 p 0 / 4 % 2 == 1)
         t = { s.answered t 0x22 tag p [0] with power := t.power, locks := t.locks, backlight := t.backlight } ∧
            (∀ x ∈ chosen, (s.src x).state.code = 6 →
              (t.src x).state = (if (s.srcSettings x).faultSelect = .forced then .fault .forced
                else if (s.src x).presence = false then .absent
                else match faultCondition (s.srcSettings x) s.pins x with
                  | some k => .fault k
                  | none => if (s.src x).latchOpen then .releasingOpen else .qualify) ∧
              ((t.src x).state = .qualify → (t.src x).qualify = (if s.scanner.ref = .degraded
                then .paused 0 (s.srcSettings x).qualifyTime else .running s.timeBase (s.srcSettings x).qualifyTime)) ∧
              ((t.src x).state.code = 6 → t.holds (.sourceFault x) = true)) ∧
            (PowerWf s → s.power.transfer = none → ∀ x ∈ allSources, (x ∉ chosen ∨ (s.src x).state.code ≠ 6) → t.src x = s.src x)))

/-- SET_SOURCE stores the clamped values for every selected source and echoes them, disables and enables, or is refused BAD_STATE (section 3.3, section 3.9). Where the spec leaves a point open it states the model's choice: log 28. -/
def Obligations.SetSourceStores : Prop :=
  ∀ (s : State) (tag : Byte) (p : List Byte) (presence : PresenceSelect) (select : FaultSelect),
    Ready 0x20 tag p s →
    p.length = 21 →
    malformed 0x20 p = false →
    presenceSelect? (u8 p 2) = some presence →
    faultSelect? (u8 p 5) = some select →
    ∃ t, exec (.setSource tag p) s = .next t ∧
      (let chosen : SourceSet := ⟨u8 p 0 % 2 == 1, u8 p 0 / 2 % 2 == 1, u8 p 0 / 4 % 2 == 1⟩
       let low : Nat := min (u16 p 6) 30000
       let new : SourceSettings := {
         enabled := decide (u8 p 1 = 1), presence := presence, threshold := min (u16 p 3) 20000, faultSelect := select,
         windowLow := low, windowHigh := max low (min (u16 p 8) 30000), qualifyTime := max 50 (min (u16 p 10) 2000),
         violationTime := max 10 (min (u8 p 12) 200) }
       let bayNew : BaySettings → BaySettings := fun b => {
         overcurrent := if u8 p 13 = 1 then max 1000 (min (u16 p 14) 10000) else b.overcurrent,
         lowThreshold := if u8 p 16 = 1 then min (u16 p 17) 20000 else b.lowThreshold,
         rideThrough := if u8 p 19 = 1 then min (u8 p 20) 50 else b.rideThrough }
       let refused : Bool := (s.power.transfer.any fun tr => allSources.any fun x => chosen.get x && (tr.incoming == x || tr.outgoing.get x)) ||
         ((!new.enabled || select == .forced) && (allSources.any fun x => (s.src x).state.closed) && allSources.all fun x => !(s.src x).state.closed || chosen.get x)
       let old : PowerSettings := s.store.settings.power
       let bays : PerBay BaySettings := ⟨if chosen.a then bayNew old.bays.a else old.bays.a, if chosen.b then bayNew old.bays.b else old.bays.b⟩
       let moved : Bool := decide (new.threshold ≠ u16 p 3 ∨ low ≠ u16 p 6 ∨ new.windowHigh ≠ u16 p 8 ∨ new.qualifyTime ≠ u16 p 10 ∨ new.violationTime ≠ u8 p 12 ∨ (u8 p 13 = 1 ∧ (u16 p 14 < 1000 ∨ 10000 < u16 p 14)) ∨ (u8 p 16 = 1 ∧ 20000 < u16 p 17) ∨ (u8 p 19 = 1 ∧ 50 < u8 p 20))
       let formed : Source → Bool := fun x => chosen.get x &&
         decide ((old.sources.get x).presence ≠ new.presence ∨ (old.sources.get x).threshold ≠ new.threshold)
       let present : Source → Bool := fun x => (match presence with
         | .pin => s.pins.pres.get x
         | .voltage => (s.src x).lastCounted.any fun v => decide (new.threshold < v)
         | .both => s.pins.pres.get x && (s.src x).lastCounted.any fun v => decide (new.threshold < v)
         | .forced => true)
       let absorbed : Bool := new.enabled && allBays.any fun y =>
         (old.sources.get (baySource y)).enabled && formed (baySource y) && (s.src (baySource y)).presence &&
         present (baySource y) && (s.src (baySource y)).pendingPresence.any fun m =>
         decide (5 ≤ (s.timeBase - m).toNat ∧ (s.timeBase - m).toNat <
         5 + (if s.drop.contactGuard = true then (bays.get y).rideThrough else 0))
       let echoBay : BaySettings := if chosen.a then bays.a else if chosen.b then bays.b else ⟨0, 0, 0⟩
       ((refused = true → t = s.replied 0x20 tag p [7]) ∧
        (refused = false → t = { s.answered t 0x20 tag p ((if moved = true then 1 else 0) ::
            le16 new.threshold ++ le16 new.windowLow ++ le16 new.windowHigh ++ le16 new.qualifyTime ++
            le8 new.violationTime ++ le16 echoBay.overcurrent ++ le16 echoBay.lowThreshold ++ le8 echoBay.rideThrough) with
          store := Store.withWord { s.store with
            settings := { s.store.settings with power := { old with
              sources := ⟨if chosen.dc then new else old.sources.dc, if chosen.a then new else old.sources.a,
                if chosen.b then new else old.sources.b⟩,
              bays := bays } } },
          power := t.power, locks := t.locks, backlight := t.backlight, drop := t.drop }) ∧
        (t.drop = s.drop ∨ t.drop = (absorbedReport s).drop) ∧
        (refused = false → PowerWf s → t.drop = if absorbed = true then (absorbedReport s).drop else s.drop) ∧
        (refused = false → ∀ x ∈ allSources, chosen.get x = true → (old.sources.get x).enabled = true → new.enabled = true →
          (s.src x).state ≠ .disabled →
          (t.src x).pendingPresence = (if formed x = false then (s.src x).pendingPresence
            else if present x = (s.src x).presence then none else some ((s.src x).pendingPresence.getD s.timeBase)) ∧
          (t.src x).presence = (s.src x).presence ∧ (t.src x).latchOpen = (s.src x).latchOpen ∧
          ((old.sources.get x).faultSelect ≠ select →
            (t.src x).currentCount = 0 ∧
            (∀ k ∈ faultCondition new s.pins x, (s.src x).state.takesFaults = true →
              (t.src x).state = .fault k ∧ (t.src x).switch = false ∧ (t.src x).qualify = .stopped ∧
              (t.src x).violation = .stopped ∧ (t.src x).goodWatch = none ∧
              Posted s t (.sourceFault x) ∧ Posted s t (.sourceState x)))) ∧
        (refused = false → s.power.transfer = none →
          (∀ x ∈ allSources, chosen.get x = true → (old.sources.get x).enabled = new.enabled ∧
            ((old.sources.get x).faultSelect ≠ select → (s.src x).state.takesFaults = true →
              faultCondition new s.pins x = none)) →
          (∀ x ∈ allSources, t.src x = { s.src x with
            pendingPresence := (t.src x).pendingPresence,
            currentCount := (if chosen.get x = true ∧ (old.sources.get x).faultSelect ≠ select then 0
              else (s.src x).currentCount) })) ∧
        (refused = false → ∀ x ∈ allSources, chosen.get x = true → (old.sources.get x).enabled = true → new.enabled = false →
          (t.src x).state = .disabled ∧ (t.src x).switch = false ∧ (t.src x).presence = false ∧
          (t.src x).pendingPresence = none ∧ (t.src x).attachSeen = false ∧ (t.src x).detachSeen = false ∧
          (t.src x).drained = false ∧ (t.src x).qualify = .stopped ∧ (t.src x).violation = .stopped) ∧
        (refused = false → ∀ x ∈ allSources, chosen.get x = true → (old.sources.get x).enabled = false → new.enabled = true →
          (t.src x).state = .absent ∧ (t.src x).switch = false ∧ (t.src x).latchOpen = (s.src x).latchOpen ∧
          (PowerWf s → (t.src x).presence = false ∧
            (t.src x).pendingPresence = (if present x = true then some s.timeBase else none)))))

/-- SET_POLICY stores policy, overlap and lock_sole unless a transfer is in flight, and SOLE follows at once; GET_POWER reports the power path (section 4.2, section 4.6, section 4.7). Where the spec leaves a point open it states the model's choice: logs 10 and 17. -/
def Obligations.PolicyRequests : Prop :=
  ∀ (s : State) (tag : Byte) (p : List Byte),
    (Ready 0x23 tag p s → p.length = 3 → u8 p 0 ≤ 3 → u8 p 2 ≤ 1 → s.power.transfer.isSome = true →
            exec (.setPolicy tag p) s = .next (s.replied 0x23 tag p [7])) ∧
      (Ready 0x23 tag p s → p.length = 3 → u8 p 0 ≤ 3 → u8 p 2 ≤ 1 → s.power.transfer = none →
            ∃ t, exec (.setPolicy tag p) s = .next t ∧ (let overlap : Nat := max 1 (min (u8 p 1) 20)
         t = { s.answered t 0x23 tag p ((if overlap = u8 p 1 then 0 else 1) :: le8 overlap) with
              store := Store.withWord { s.store with
                settings := { s.store.settings with power := { s.store.settings.power with
                  policy := (match u8 p 0 with | 0 => .drainLower | 1 => .drainAFirst | 2 => .drainBFirst | _ => .share),
                  overlap := overlap,
                  lockSole := decide (u8 p 2 = 1) } } },
              power := t.power, locks := t.locks, backlight := t.backlight } ∧
            (∀ y ∈ allBays,
              (t.locks.get y).reasons.sole = (decide (u8 p 2 = 1) &&
                ((t.src (baySource y)).state == .activeOn || (t.src (baySource y)).state == .releasingHeld) &&
                allSources.all fun x => x == baySource y ||
                  ((t.src x).state != .standby && (t.src x).state != .activeOn)) ∧
              (t.locks.get y).reasons.drop = (s.locks.get y).reasons.drop ∧
              (t.locks.get y).reasons.host = (s.locks.get y).reasons.host) ∧
            (∀ x ∈ allSources, (t.src x).presence = (s.src x).presence))) ∧
      (Ready 0x24 tag [] s →
            exec (.getPower tag []) s = .next ({ s.replied 0x24 tag [] (0 :: le8 s.power.condition.code ++
            [sourceSetOf (fun x => (s.src x).state.closed) |>.mask] ++ le8 s.store.settings.power.policy.code ++
            le8 s.store.settings.power.overlap ++
            [boolByte s.store.settings.power.lockSole, boolByte s.power.deferred] ++
            (match s.power.transfer with
              | some tr => 1 :: le8 tr.kind.code ++ [tr.outgoing.mask] ++ le8 (sourceCode tr.incoming) ++ le8 tr.step.code ++
                  le32 tr.startMs.toNat ++ [tr.tried.mask]
              | none => 0 :: (List.range 9).map fun i => Config.ignoredByte (s.freeCount + i))) with
            freeCount := s.freeCount + 16 }))

/-- A source that qualifies with none feeding starts a BREAK; the overlap's end opens the outgoing; a sole feeder that is held or lost brings RELEASE or BREAK (section 4.3, section 4.5, section 4.6). -/
def Obligations.TransfersBeginAndEnd : Prop :=
  ∀ (s : State) (x : Source) (y : Source) (bay : Bay) (m : Moment) (length : Nat) (timer : Timer) (tr : Transfer),
    s.supply = .run →
    ((s.src x).state = .qualify → (s.src x).qualify = .running m length → length ≤ (s.timeBase - m).toNat → faultCondition (s.srcSettings x) s.pins x = none → (s.src x).latchOpen = false → s.power.transfer = none → s.power.joining = none → Alone x (if x = .dc then allSources else []) s → s.pins.good.get x = true →
            ∃ t, exec (.qualifyExpiry x) s = .next t ∧ (t.power = { s.power with
              src := s.power.src.set x (s.src x).confirmed, deferred := false, condition := t.power.condition } ∧
            Posted s t .transferDone ∧ (∀ z ∈ allBays, (t.locks.get z).reasons.transfer = false) ∧ t = { s.acted t with power := t.power, locks := t.locks, backlight := t.backlight })) ∧
      ((s.src x).state = .qualify → (s.src x).qualify = .running m length → length ≤ (s.timeBase - m).toNat → faultCondition (s.srcSettings x) s.pins x = none → (s.src x).latchOpen = false → s.power.transfer = none → s.power.joining = none → Alone x (if x = .dc then allSources else []) s → s.pins.good.get x = false →
            ∃ t, exec (.qualifyExpiry x) s = .next t ∧ (t.power = { s.power with
              src := s.power.src.set x ((s.src x).closing s.timeBase),
              transfer := some {
                kind := .breakLoad, outgoing := noSources, incoming := x, step := .closingIncoming,
                startMs := s.timeBase, tried := oneSource x },
              deferred := false, condition := .transfer } ∧
            (∀ z ∈ allBays, (t.locks.get z).reasons.transfer = decide (baySource z = x)) ∧ t = { s.acted t with power := t.power, locks := t.locks, backlight := t.backlight })) ∧
      (s.power.transfer = some tr → tr.step = .overlap timer → timer.length ≤ (s.timeBase - timer.since).toNat → tr.outgoing.get tr.incoming = false → (s.src tr.incoming).state = .activeOn → tr.incoming = .dc ∨ (s.store.settings.power.policy ≠ .share ∧ s.power.joining = none ∧
          (s.src tr.incoming).drained = false ∧ (s.src .dc).state.closed = false ∧ (s.src .dc).state ≠ .standby ∧
          allSources.all (fun z => z == tr.incoming || tr.outgoing.get z || !(s.src z).state.closed) = true) →
            ∃ t, exec (.overlapExpiry) s = .next t ∧ (t.power.transfer = none ∧ t.src tr.incoming = s.src tr.incoming ∧ Posted s t .transferDone ∧
            (∀ z ∈ allSources, tr.outgoing.get z = true → faultCondition (s.srcSettings z) s.pins z = none →
              ((s.src z).state = .activeOn → (s.src z).latchOpen = false →
                (t.src z).state = .standby ∧ (t.src z).switch = false) ∧
              ((s.src z).state = .releasingHeld → (t.src z).state = .releasingOpen ∧ (t.src z).switch = false)) ∧
            (∀ z ∈ allBays, (t.locks.get z).reasons.transfer = false) ∧ t = { s.acted t with power := t.power, locks := t.locks, backlight := t.backlight })) ∧
      (s.power.transfer = some tr → tr.step = .overlap timer → (s.timeBase - timer.since).toNat < timer.length → (s.src tr.incoming).state = .activeOn → (∃ z ∈ allSources, tr.outgoing.get z = true ∧ (s.src z).state.closed = true) →
            ∃ t, exec (.overlapExpiry) s = .next t ∧ (t = { s.acted t with power := t.power, locks := t.locks, backlight := t.backlight } ∧ t.power.src = s.power.src ∧ t.power.transfer = s.power.transfer)) ∧
      (x = baySource bay → (s.src x).state = .activeOn → (s.src x).pendingLatch = some m → 2 ≤ (s.timeBase - m).toNat → (s.src x).latchOpen = false → faultCondition (s.srcSettings x) s.pins x = none → s.power.transfer = none → s.power.joining = none → Alone x [] s →
            ∃ t, exec (.latchDebounceExpiry bay) s = .next t ∧ (t.power = { s.power with
              src := s.power.src.set x (s.src x).held, deferred := false, condition := .transfer } ∧
            Posted s t .releaseHeld ∧ t = { s.acted t with power := t.power, locks := t.locks, backlight := t.backlight })) ∧
      (x = baySource bay → (s.src x).state = .activeOn → (s.src x).pendingLatch = some m → 2 ≤ (s.timeBase - m).toNat → (s.src x).latchOpen = false → faultCondition (s.srcSettings x) s.pins x = none → s.power.transfer = none → s.power.joining = none → y ≠ x → (s.src y).state = .standby → faultCondition (s.srcSettings y) s.pins y = none → s.pins.good.get y = false → Alone x [y] s →
            ∃ t, exec (.latchDebounceExpiry bay) s = .next t ∧ (t.power = { s.power with
              src := (s.power.src.set x (s.src x).held).set y ((s.src y).closing s.timeBase),
              transfer := some {
                kind := .release, outgoing := oneSource x, incoming := y, step := .closingIncoming,
                startMs := s.timeBase, tried := oneSource y },
              deferred := false, condition := .transfer } ∧
            (∀ z ∈ allBays, (t.locks.get z).reasons.transfer = decide (baySource z = y)) ∧ t = { s.acted t with power := t.power, locks := t.locks, backlight := t.backlight })) ∧
      ((s.src x).state.closed = true → (s.src x).presence = true → (s.src x).pendingPresence = some m → holdTime x s ≤ (s.timeBase - m).toNat → s.power.transfer = none → s.power.joining = none → Alone x [] s →
            ∃ t, exec (.presenceHoldExpiry x) s = .next t ∧ (t.power = { s.power with
              src := s.power.src.set x (s.src x).lost, deferred := false, condition := .noSupply } ∧
            Posted s t .noReserve ∧ t = { s.acted t with power := t.power, locks := t.locks, backlight := t.backlight })) ∧
      ((s.src x).state.closed = true → (s.src x).presence = true → (s.src x).pendingPresence = some m → holdTime x s ≤ (s.timeBase - m).toNat → s.power.transfer = none → s.power.joining = none → y ≠ x → (s.src y).state = .standby → faultCondition (s.srcSettings y) s.pins y = none → s.pins.good.get y = false → Alone x [y] s →
            ∃ t, exec (.presenceHoldExpiry x) s = .next t ∧ (t.power = { s.power with
              src := (s.power.src.set x (s.src x).lost).set y ((s.src y).closing s.timeBase),
              transfer := some {
                kind := .breakLoad, outgoing := noSources, incoming := y, step := .closingIncoming,
                startMs := s.timeBase, tried := oneSource y },
              deferred := false, condition := .transfer } ∧
            (∀ z ∈ allBays, (t.locks.get z).reasons.transfer = decide (baySource z = y)) ∧ t = { s.acted t with power := t.power, locks := t.locks, backlight := t.backlight }))

/-- An evaluation compares the preferred set with the feeding set: nothing, a leave, a join or a transfer, of which the guard defers two (section 4.2, section 4.3, section 4.4, section 4.5). Where the spec leaves a point open it states the model's choice: log 48. -/
def Obligations.EvaluationActs : Prop :=
  ∀ (s : State) (tag : Byte) (p : List Byte) (policy : Policy) (x : Source) (pref : SourceSet) (feed : SourceSet),
    Ready 0x23 tag p s →
    p.length = 3 →
    u8 p 2 ≤ 1 →
    policy? (u8 p 0) = some policy →
    policy ≠ s.store.settings.power.policy →
    s.power.transfer = none →
    (∀ z ∈ allSources, ((s.src z).state = .activeClosing ↔ s.power.joining.map baySource = some z) ∧
        ((s.src z).state.takesFaults = true → faultCondition (s.srcSettings z) s.pins z = none)) →
    pref = s.power.preferred policy →
    feed = s.power.feeding →
    (pref.isEmpty = true ∨ pref = feed →
            ∃ t, exec (.setPolicy tag p) s = .next t ∧ (t.power = { s.power with deferred := false, condition := t.power.condition })) ∧
      (pref.isEmpty = false → pref ≠ feed → pref.within feed = true →
            ∃ t, exec (.setPolicy tag p) s = .next t ∧ (t.power = { s.power with
              src := t.power.src, deferred := false, condition := t.power.condition,
              joining := s.power.joining.filter fun k => !(feed.minus pref).get (baySource k) } ∧
            (∀ z ∈ allSources, (feed.minus pref).get z = true →
              (t.src z).state = (if (s.src z).state = .releasingHeld ∨ (s.src z).latchOpen = true then .releasingOpen
                else .standby) ∧
              (t.src z).switch = false ∧ (t.src z).violation = .stopped ∧ (t.src z).goodWatch = none ∧
              (t.src z).presence = (s.src z).presence ∧ Posted s t (.sourceState z)) ∧
            (∀ z ∈ allSources, (feed.minus pref).get z = false → t.src z = s.src z))) ∧
      (policy = .share → pref.dc = false → feed.dc = false → feed.isEmpty = false → (∀ z ∈ allSources, (s.src z).state ≠ .releasingHeld) → feed.within pref = true → pref.minus feed = oneSource x → s.drop.contactGuard = false → s.power.joining ≠ none →
            ∃ t, exec (.setPolicy tag p) s = .next t ∧ (t.power = { s.power with deferred := false, condition := t.power.condition })) ∧
      (policy = .share → pref.dc = false → feed.dc = false → feed.isEmpty = false → (∀ z ∈ allSources, (s.src z).state ≠ .releasingHeld) → feed.within pref = true → pref.minus feed = oneSource x → s.drop.contactGuard = false → s.power.joining = none → s.pins.good.get x = false →
            ∃ t, exec (.setPolicy tag p) s = .next t ∧ (t.power = { s.power with
              src := s.power.src.set x ((s.src x).closing s.timeBase), joining := sourceBay x, deferred := false,
              condition := t.power.condition } ∧
            (∀ z ∈ allBays, (t.locks.get z).reasons.transfer = false))) ∧
      (policy = .share → pref.dc = false → feed.dc = false → feed.isEmpty = false → (∀ z ∈ allSources, (s.src z).state ≠ .releasingHeld) → feed.within pref = true → pref.minus feed = oneSource x → s.drop.contactGuard = false → s.power.joining = none → s.pins.good.get x = true →
            ∃ t, exec (.setPolicy tag p) s = .next t ∧ (t.power = { s.power with
              src := s.power.src.set x (s.src x).confirmed, deferred := false, condition := t.power.condition } ∧
            (∀ z ∈ allBays, (t.locks.get z).reasons.transfer = false))) ∧
      (policy = .share → pref.dc = false → feed.dc = false → feed.isEmpty = false → (∀ z ∈ allSources, (s.src z).state ≠ .releasingHeld) → feed.within pref = true → pref.minus feed = oneSource x → s.drop.contactGuard = true →
            ∃ t, exec (.setPolicy tag p) s = .next t ∧ (t.power = { s.power with deferred := true, condition := t.power.condition })) ∧
      (pref.within feed = false → (policy ≠ .share ∨ pref.dc = true ∨ feed.dc = true ∨ feed.isEmpty = true ∨ feed.within pref = false ∨
          (pref.minus feed).size ≠ 1 ∨ (∃ z ∈ allSources, (s.src z).state = .releasingHeld)) → firstChoice s.power policy (pref.minus feed) = some x → s.pins.good.get x = false → (s.drop.contactGuard = false ∨ feed.size ≠ 1 ∨ (∃ z ∈ allSources, (s.src z).state = .releasingHeld)) →
            ∃ t, exec (.setPolicy tag p) s = .next t ∧ (t.power = { s.power with
              src := s.power.src.set x ((s.src x).closing s.timeBase),
              transfer := some {
                kind := (if feed.isEmpty = true then TransferKind.breakLoad else if ∃ z ∈ allSources, (s.src z).state = .releasingHeld then .release else .planned),
                outgoing := feed.minus pref, incoming := x, step := .closingIncoming, startMs := s.timeBase,
                tried := oneSource x },
              deferred := false, condition := .transfer } ∧
            (∀ z ∈ allBays, (t.locks.get z).reasons.transfer = decide (baySource z = x)))) ∧
      (pref.within feed = false → (policy ≠ .share ∨ pref.dc = true ∨ feed.dc = true ∨ feed.isEmpty = true ∨ feed.within pref = false ∨
          (pref.minus feed).size ≠ 1 ∨ (∃ z ∈ allSources, (s.src z).state = .releasingHeld)) → firstChoice s.power policy (pref.minus feed) = some x → feed.isEmpty = false → s.pins.good.get x = true → (s.drop.contactGuard = false ∨ feed.size ≠ 1 ∨ (∃ z ∈ allSources, (s.src z).state = .releasingHeld)) →
            ∃ t, exec (.setPolicy tag p) s = .next t ∧ (t.power = { s.power with
              src := s.power.src.set x (s.src x).confirmed,
              transfer := some {
                kind := (if feed.isEmpty = true then TransferKind.breakLoad else if ∃ z ∈ allSources, (s.src z).state = .releasingHeld then .release else .planned),
                outgoing := feed.minus pref, incoming := x,
                step := .overlap { since := s.timeBase, length := max 1 (min (u8 p 1) 20) },
                startMs := s.timeBase, tried := oneSource x },
              deferred := false, condition := .transfer } ∧
            (∀ z ∈ allBays, (t.locks.get z).reasons.transfer = decide (baySource z = x)))) ∧
      (pref.within feed = false → (policy ≠ .share ∨ pref.dc = true ∨ feed.dc = true ∨ feed.isEmpty = true ∨ feed.within pref = false ∨
          (pref.minus feed).size ≠ 1 ∨ (∃ z ∈ allSources, (s.src z).state = .releasingHeld)) → firstChoice s.power policy (pref.minus feed) = some x → s.drop.contactGuard = true → feed.size = 1 → (∀ z ∈ allSources, (s.src z).state ≠ .releasingHeld) →
            ∃ t, exec (.setPolicy tag p) s = .next t ∧ (t.power = { s.power with deferred := true, condition := t.power.condition }))

/-- An incoming source that fails or leaves gives way to the next candidate; with none left the transfer ends; a held one ends a BREAK (section 4.5, section 4.6). Where the spec leaves a point open it states the model's choice: log 29. -/
def Obligations.CandidatesTried : Prop :=
  ∀ (s : State) (x : Source) (y : Source) (bay : Bay) (gone : SourceState) (cmd : Instr) (tr : Transfer),
    s.supply = .run →
    s.power.transfer = some tr →
    tr.incoming = x →
    (IncomingLeaves x cmd gone s → tr.outgoing.get x = false → (∀ k ∈ allBays, cmd ≠ .latchDebounceExpiry k) ∨ (∃ z ∈ allSources, tr.outgoing.get z = true ∧ (s.src z).state.closed = true) → firstChoice s.power s.store.settings.power.policy (candidates s.power tr.outgoing tr.tried) = some y → faultCondition (s.srcSettings y) s.pins y = none → s.pins.good.get y = false →
            ∃ t, exec (cmd) s = .next t ∧ (t.power = { s.power with
              src := (s.power.src.set x (t.src x)).set y ((s.src y).closing s.timeBase),
              transfer := some { tr with incoming := y, step := .closingIncoming, tried := tr.tried.set y true },
              joining := t.power.joining, condition := .transfer } ∧
            (t.src x).state = gone ∧ (t.src x).switch = false ∧
            (∀ z ∈ allBays, (t.locks.get z).reasons.transfer = decide (baySource z = y)) ∧ t = { s.acted t with power := t.power, locks := t.locks, backlight := t.backlight })) ∧
      (IncomingLeaves x cmd gone s → tr.outgoing.get x = false → (∀ k ∈ allBays, cmd ≠ .latchDebounceExpiry k) ∨ (∃ z ∈ allSources, tr.outgoing.get z = true ∧ (s.src z).state.closed = true) → firstChoice s.power s.store.settings.power.policy (candidates s.power tr.outgoing tr.tried) = some y → faultCondition (s.srcSettings y) s.pins y = none → s.pins.good.get y = true → (∃ z ∈ allSources, z ≠ x ∧ tr.outgoing.get z = true ∧ (s.src z).state.closed = true) →
            ∃ t, exec (cmd) s = .next t ∧ (t.power = { s.power with
              src := (s.power.src.set x (t.src x)).set y (s.src y).confirmed,
              transfer := some { tr with
                incoming := y, step := .overlap { since := s.timeBase, length := s.store.settings.power.overlap },
                tried := tr.tried.set y true },
              joining := t.power.joining, condition := .transfer } ∧
            (t.src x).state = gone ∧ (t.src x).switch = false ∧
            (∀ z ∈ allBays, (t.locks.get z).reasons.transfer = decide (baySource z = y)) ∧ t = { s.acted t with power := t.power, locks := t.locks, backlight := t.backlight })) ∧
      (IncomingLeaves x cmd gone s → tr.outgoing.get x = false → (∀ k ∈ allBays, cmd ≠ .latchDebounceExpiry k) ∨ (∃ z ∈ allSources, tr.outgoing.get z = true ∧ (s.src z).state.closed = true) → firstChoice s.power s.store.settings.power.policy (candidates s.power tr.outgoing tr.tried) = none → s.power.joining = none → (allSources.filter fun z => z != x && (s.src z).state.closed).length ≤ 1 → (∀ z ∈ allSources, z ≠ x → (s.src z).state ≠ .standby ∧ (s.src z).state ≠ .activeClosing) →
            ∃ t, exec (cmd) s = .next t ∧ (let feeds : Bool := allSources.any fun z => z != x && (s.src z).state.closed
         t.power = { s.power with
              src := s.power.src.set x (t.src x), transfer := none, deferred := false,
              condition := t.power.condition } ∧
            (t.src x).state = gone ∧ (t.src x).switch = false ∧
            (feeds = false → t.power.condition = .noSupply ∧ Posted s t .noReserve) ∧
            (feeds = true → Posted s t .transferFailed) ∧
            (∀ z ∈ allBays, (t.locks.get z).reasons.transfer = false) ∧ t = { s.acted t with power := t.power, locks := t.locks, backlight := t.backlight })) ∧
      (x = baySource bay → (s.src x).state = .activeClosing → (s.src x).goodWatch.isSome = true → (s.src x).latchOpen = false → reachedSince s (s.src x).pendingLatch 2 = true → faultCondition (s.srcSettings x) s.pins x = none → (∀ z ∈ allSources, tr.outgoing.get z = true → (s.src z).state.closed = false) →
            ∃ t, exec (.latchDebounceExpiry bay) s = .next t ∧ (t.power = { s.power with
              src := s.power.src.set x (s.src x).held, joining := t.power.joining, condition := .transfer } ∧ t = { s.acted t with power := t.power, locks := t.locks, backlight := t.backlight })) ∧
      ((s.src x).state = .releasingHeld → (s.src x).goodWatch.isSome = true → s.power.joining = none → (∀ z ∈ allSources, (s.src z).state.eligible = false) → (∀ z ∈ allSources, tr.outgoing.get z = true → (s.src z).state.closed = false) →
            ∃ t, exec (.goodConfirm x) s = .next t ∧ (t.power = { s.power with
              src := s.power.src.set x { s.src x with goodWatch := none }, transfer := none, deferred := false,
              condition := .transfer } ∧
            Posted s t .releaseHeld ∧ (s.holds .transferDone = false → t.holds .transferDone = false) ∧
            (∀ z ∈ allBays, (t.locks.get z).reasons.transfer = false) ∧ t = { s.acted t with
                pins := { s.pins with good := s.pins.good.set x true },
                power := t.power, locks := t.locks, backlight := t.backlight })) ∧
      ((s.src x).state = .activeOn → tr.outgoing.get x = false → y ≠ x → tr.outgoing.get y = true → (s.src y).state.closed = true → (s.src y).presence = true → reachedSince s (s.src y).pendingPresence (holdTime y s) = true → s.power.joining = none → (∀ z ∈ allSources, z ≠ x → z ≠ y → (s.src z).state.closed = false ∧ (s.src z).state ≠ .standby) →
            ∃ t, exec (.presenceHoldExpiry y) s = .next t ∧ (t.power = { s.power with
              src := s.power.src.set y (s.src y).lost, transfer := none, deferred := false,
              condition := t.power.condition } ∧
            Posted s t .transferDone ∧ (∀ z ∈ allBays, (t.locks.get z).reasons.transfer = false) ∧ t = { s.acted t with power := t.power, locks := t.locks, backlight := t.backlight }))

/-- The preferred set is {DC}, or under SHARE all eligible bays, or one bay, kept while it feeds undrained; candidates are taken in R83's order (section 4.2, section 4.5). Where the spec leaves a point open it states the model's choice: log 24. -/
def Obligations.PreferredSetChosen : Prop :=
  ∀ (p : Power) (policy : Policy),
    (∀ set : SourceSet, firstChoice p policy set =
        (if set.dc = true then some .dc
        else if set.a = true ∧ set.b = true then some (
          if p.src.a.drained ≠ p.src.b.drained then (if p.src.a.drained = true then .b else .a)
          else if p.src.a.drained = true then (if p.src.a.lastVoltage < p.src.b.lastVoltage then .b else .a)
          else (match policy with
            | .drainAFirst => .a
            | .drainBFirst => .b
            | _ => if p.src.b.lastVoltage < p.src.a.lastVoltage then .b else .a))
        else if set.a = true then some .a else if set.b = true then some .b else none)) ∧
      (p.src.dc.state.eligible = true → p.preferred policy = ⟨true, false, false⟩) ∧
      (let inA : Bool := p.src.a.state.eligible || p.joining == some .a
       let inB : Bool := p.src.b.state.eligible || p.joining == some .b
       let onA : Bool := p.src.a.state == .activeOn || p.joining == some .a
       let onB : Bool := p.src.b.state == .activeOn || p.joining == some .b
       (p.src.dc.state.eligible = false → policy = .share → p.preferred policy = ⟨false, inA, inB⟩) ∧
        (p.src.dc.state.eligible = false → policy ≠ .share →
          (onA = true → p.src.a.drained = false → (onB = false ∨ p.src.b.drained = true) →
            p.preferred policy = ⟨false, true, false⟩) ∧
          (onB = true → p.src.b.drained = false → (onA = false ∨ p.src.a.drained = true) →
            p.preferred policy = ⟨false, false, true⟩) ∧
          (p.preferred policy = ⟨false, false, false⟩ ↔ inA = false ∧ inB = false) ∧
          ((p.preferred policy).dc = false) ∧
          ((p.preferred policy).a = true → (p.preferred policy).b = false ∧ inA = true ∧
            (p.src.a.drained = true → inB = true → p.src.b.drained = true)) ∧
          ((p.preferred policy).b = true → (p.preferred policy).a = false ∧ inB = true ∧
            (p.src.b.drained = true → inA = true → p.src.a.drained = true)) ∧
          (inA = true → inB = true → onA = onB → p.src.a.drained = false → p.src.b.drained = false →
            p.preferred policy = (match policy with
              | .drainAFirst => ⟨false, true, false⟩
              | .drainBFirst => ⟨false, false, true⟩
              | _ => if p.src.b.lastVoltage < p.src.a.lastVoltage then ⟨false, false, true⟩ else ⟨false, true, false⟩)) ∧
          (inA = true → inB = true → p.src.a.drained = true → p.src.b.drained = true →
            p.preferred policy =
              (if p.src.a.lastVoltage < p.src.b.lastVoltage then ⟨false, false, true⟩ else ⟨false, true, false⟩))))

/-- Sense reports, the 50 ms window, SET_HOST_LOCK and RETRY_LOCK move a bay lock as the tables say, with the drive on the set (section 5.1, section 5.2, section 5.3, section 5.4, section 5.5). -/
def Obligations.LocksMove : Prop :=
  ∀ (s : State) (bay : Bay) (level : Bool) (m : Moment) (tag : Byte) (p : List Byte),
    (s.supply ≠ .run →
            exec (.lksPinChange bay level) s = .next ({ s with pins := { s.pins with lks := s.pins.lks.set bay level } })) ∧
      (s.supply = .run →
            exec (.lksPinChange bay level) s = .next (finish { s with
            pins := { s.pins with lks := s.pins.lks.set bay level },
            locks := s.locks.set bay { s.locks.get bay with pendingSense :=
              (if level = (s.locks.get bay).sense then none else some ((s.locks.get bay).pendingSense.getD s.timeBase)) } })) ∧
      (s.supply = .run → (s.locks.get bay).pendingSense = some m → 2 ≤ (s.timeBase - m).toNat →
            ∃ t, exec (.senseDebounceExpiry bay) s = .next t ∧ (let l : BayLock := s.locks.get bay
         let new : LockState := (match l.state, l.sense with
           | .engaging _, false => .locked
           | .unlocking _, true => .free
           | .locked, true => .jammed .slipped
           | st, _ => st)
         t = { s.acted t with locks := s.locks.set bay { l with sense := !l.sense, pendingSense := none, state := new } } ∧
            (new ≠ l.state → Posted s t .lockState) ∧ (new.code = 4 → new ≠ l.state → Posted s t .lockJammed) ∧
            (new = l.state → t = finish { s with
              locks := s.locks.set bay { l with sense := !l.sense, pendingSense := none } }))) ∧
      (s.supply = .run → (s.locks.get bay).state = .engaging m ∨ (s.locks.get bay).state = .unlocking m → 50 ≤ (s.timeBase - m).toNat →
            ∃ t, exec (.lockWindowExpiry bay) s = .next t ∧ (let l : BayLock := s.locks.get bay
         t = { s.acted t with locks := s.locks.set bay { l with
              state := .jammed (if l.state = .engaging m then .engage else .release) } } ∧
            Posted s t .lockState ∧ Posted s t .lockJammed)) ∧
      (Ready 0x28 tag p s → p.length = 2 → malformed 0x28 p = false →
            ∃ t, exec (.setHostLock tag p) s = .next t ∧ (t = { s.answered t 0x28 tag p [0] with locks := t.locks } ∧
            (∀ y ∈ allBays,
              t.locks.get y = (let l := s.locks.get y; let new := { l.reasons with host := decide (u8 p 1 = 1) };
                if (u8 p 0 / (match y with | .a => 2 | .b => 4)) % 2 = 0 ∨ new = l.reasons then l
                else { l with
                  reasons := new,
                  drive := !new.isEmpty,
                  state := (if (l.reasons.isEmpty || new.isEmpty || l.state.code == 4) = true then
                  (if new.isEmpty = true then (if l.sense then .unlocking s.timeBase else .free)
                   else (if l.sense then .locked else .engaging s.timeBase))
                else l.state) }) ∧
              ((t.locks.get y).state ≠ (s.locks.get y).state → t.holds .lockState = true)) ∧
            ((∀ y ∈ allBays, (t.locks.get y).state = (s.locks.get y).state) → t.link.notices = s.link.notices))) ∧
      (Ready 0x2A tag p s → p.length = 1 → malformed 0x2A p = false →
            ∃ t, exec (.retryLock tag p) s = .next t ∧ (t = { s.answered t 0x2A tag p [0] with locks := t.locks } ∧
            (∀ y ∈ allBays,
              t.locks.get y = (let l := s.locks.get y;
                if (u8 p 0 / (match y with | .a => 2 | .b => 4)) % 2 = 0 ∨ l.state.code ≠ 4 then l
                else { l with state :=
                  (if l.reasons.isEmpty = true then (if l.sense then .unlocking s.timeBase else .free)
                  else (if l.sense then .locked else .engaging s.timeBase)) }) ∧
              ((t.locks.get y).state ≠ (s.locks.get y).state → t.holds .lockState = true)) ∧
            ((∀ y ∈ allBays, (t.locks.get y).state = (s.locks.get y).state) → t.link.notices = s.link.notices)))

/-- LID pends for 30 ms and then the lid closes or opens; SET_AMBIENT stores and echoes; slot 5 seeds and updates the filter (section 2.3, section 2.4, section 6.2, section 6.3, section 6.4, section 6.5, section 6.6). Where the spec leaves a point open it states the model's choice: logs 45 and 46. -/
def Obligations.AmbientFrontEnd : Prop :=
  ∀ (s : State) (level : Bool) (m : Moment) (tag : Byte) (p : List Byte) (code : BitVec 12),
    (s.supply = .run →
            exec (.lidPinChange level) s = .next (finish { s with
            pins := { s.pins with lid := level },
            ambient := { s.ambient with pendingLid :=
              (if level = s.ambient.lidClosed then none else some (s.ambient.pendingLid.getD s.timeBase)) } })) ∧
      (s.supply ≠ .run →
            exec (.lidPinChange level) s = .next ({ s with pins := { s.pins with lid := level } })) ∧
      (s.supply = .run → s.ambient.pendingLid = some m → 30 ≤ (s.timeBase - m).toNat → s.ambient.lidClosed = false →
            ∃ t, exec (.lidDebounceExpiry) s = .next t ∧ (t = { s.acted t with
              ambient := { s.ambient with lidClosed := true, pendingLid := none },
              backlight := t.backlight } ∧
            t.backlight = Backlight.settled { s.backlight with lidClosed := true, level := 0, target := none, ambient := none }
              s.store.settings.backlight ∧
            t.backlight.level = 0 ∧ t.backlight.duty = 0 ∧ t.backlight.blEn = false ∧ t.backlight.binding = false ∧
            BindingPosted s t)) ∧
      (s.supply = .run → s.ambient.pendingLid = some m → 30 ≤ (s.timeBase - m).toNat → s.ambient.lidClosed = true →
            ∃ t, exec (.lidDebounceExpiry) s = .next t ∧ (let lux : Nat := s.store.settings.ambient.fixedLux * 4
         let light : BacklightSettings := s.store.settings.backlight
         t = { s.acted t with
              ambient := { s.ambient with
                lidClosed := false, pendingLid := none, seedPending := true, filter := t.ambient.filter },
              backlight := t.backlight } ∧
            t.ambient.filter = (if s.ambient.validity = .invalid ∧ s.store.settings.ambient.fallback = .fixed
              then some { acc := lux * 2 ^ s.store.settings.ambient.k, avg := lux } else s.ambient.filter) ∧
            t.backlight = (match t.ambient.filter with
              | some f => if s.ambient.validity = .invalid then (s.backlight.uncovered light).handed light f.avg true
                else s.backlight.uncovered light
              | none => s.backlight.uncovered light) ∧
            BindingPosted s t)) ∧
      (Ready 0x30 tag p s → p.length = 6 → u8 p 1 ≤ 1 →
            ∃ t, exec (.setAmbient tag p) s = .next t ∧ (let new : AmbientSettings := {
           k := min (u8 p 0) 6, fallback := (if u8 p 1 = 0 then .hold else .fixed), fixedLux := min (u32 p 2) 131040 }
         let old : AmbientSettings := s.store.settings.ambient
         let placed : Bool := decide ((old.fallback ≠ new.fallback ∨ old.fixedLux ≠ new.fixedLux) ∧ new.fallback = .fixed ∧
           s.ambient.validity = .invalid ∧ s.ambient.lidClosed = false)
         let light : BacklightSettings := s.store.settings.backlight
         t = { s.answered t 0x30 tag p ((if new.k = u8 p 0 ∧ new.fixedLux = u32 p 2 then 0 else 1) ::
                le8 new.k ++ le32 new.fixedLux) with
              store := Store.withWord { s.store with settings := { s.store.settings with ambient := new } },
              ambient := { s.ambient with filter :=
                (if placed = true then some { acc := new.fixedLux * 4 * 2 ^ new.k, avg := new.fixedLux * 4 }
                else if old.k ≠ new.k then s.ambient.filter.map fun f => { acc := f.avg * 2 ^ new.k, avg := f.avg }
                else s.ambient.filter) },
              backlight := t.backlight } ∧
            t.backlight = (if placed = true then s.backlight.handed light (new.fixedLux * 4) true
              else match s.ambient.filter with
                | some f => if old.k ≠ new.k ∧ s.ambient.lidClosed = false then s.backlight.handed light f.avg true
                  else s.backlight
                | none => s.backlight) ∧
            BindingPosted s t)) ∧
      (s.supply = .run → s.scanner.conv = .slot 5 [] → s.store.settings.scan.slots[5].kind = .single → s.scanner.ref = .normal →
            ∃ t, exec (.conversionEnd code) s = .next t ∧ (let sample : Nat := (match s.ambient.range with | .low => code.toNat | .high => code.toNat * 128)
         let k : Nat := s.store.settings.ambient.k
         let mv : Nat := (code.toNat * 2500 * s.store.settings.scan.slots[5].divider.factor + 2047) / 4095
         let range : Range := (match s.ambient.range with
           | .low => if 3800 ≤ code.toNat then .high else .low
           | .high => if code.toNat ≤ 24 then .low else .high)
         let seed : Bool := s.ambient.filter.all fun f =>
           s.ambient.seedPending || decide (4 * f.avg + 4 < sample) || decide (4 * sample + 4 < f.avg)
         let filter : Filter := (match s.ambient.filter with
           | none => { acc := sample * 2 ^ k, avg := sample }
           | some f => if seed = true then { acc := sample * 2 ^ k, avg := sample }
           else { acc := f.acc - f.acc / 2 ^ k + sample, avg := (f.acc - f.acc / 2 ^ k + sample) / 2 ^ k })
         t = { s.acted t with
              scanner := Scanner.leaves { s.scanner with slots := t.scanner.slots } s.store.settings.scan 5 s.timeBase,
              ambient := t.ambient, backlight := t.backlight } ∧
            SlotEnds s t 5 code.toNat mv 1 false ∧
            (s.ambient.lidClosed = true → t.ambient = s.ambient ∧ t.backlight = s.backlight) ∧
            (s.ambient.lidClosed = false → s.ambient.discard = true →
              t.ambient = { s.ambient with discard := false } ∧ t.backlight = s.backlight) ∧
            (s.ambient.lidClosed = false → s.ambient.discard = false →
              t.ambient = { s.ambient with
                validity := .valid, filter := some filter, seedPending := false, range := range,
                discard := decide (range ≠ s.ambient.range) } ∧
              t.backlight = s.backlight.handed s.store.settings.backlight filter.avg seed ∧ BindingPosted s t ∧
              (s.ambient.validity ≠ .valid → Posted s t .ambientValidity)))) ∧
      (s.supply = .run → s.scanner.conv = .slot 5 [] → s.store.settings.scan.slots[5].kind = .single → s.scanner.ref = .degraded →
            ∃ t, exec (.conversionEnd code) s = .next t ∧ (let mv : Nat := (code.toNat * 2500 * s.store.settings.scan.slots[5].divider.factor + 2047) / 4095
         let k : Nat := s.store.settings.ambient.k
         let lux : Nat := s.store.settings.ambient.fixedLux * 4
         let fixed : Bool := decide (s.store.settings.ambient.fallback = .fixed)
         let turns : Bool := decide (s.ambient.lidClosed = false ∧ s.ambient.discard = false ∧ s.ambient.validity ≠ .invalid)
         t = { s.acted t with
              scanner := Scanner.leaves { s.scanner with slots := t.scanner.slots } s.store.settings.scan 5 s.timeBase,
              ambient := (if s.ambient.lidClosed = true then s.ambient
                else if s.ambient.discard = true then { s.ambient with discard := false }
                else if s.ambient.validity = .invalid then s.ambient
                else { s.ambient with
                  validity := .invalid, seedPending := true,
                  filter := (if fixed = true then some { acc := lux * 2 ^ k, avg := lux } else s.ambient.filter) }),
              backlight := t.backlight } ∧
            SlotEnds s t 5 code.toNat mv 1 true ∧
            (turns = true → Posted s t .ambientValidity) ∧
            t.backlight = (if turns = true ∧ fixed = true then s.backlight.handed s.store.settings.backlight lux true
              else s.backlight) ∧
            BindingPosted s t))

/-- At each 10 ms tick the level moves toward the limited target by at most the slew, and the duty follows; else the level holds (section 7.5). Where the spec leaves a point open it states the model's choice: logs 30 and 46. -/
def Obligations.RampTicks : Prop :=
  ∀ (s : State) (target : Nat),
    (s.supply = .run → BacklightWf s → 10 ≤ (s.timeBase - s.backlight.rampSince).toNat → s.backlight.lidClosed = false → s.store.settings.backlight.scalars.mode ≠ .off → s.backlight.target = some target →
            ∃ t, exec (.rampTick) s = .next t ∧ (let c : BacklightScalars := s.store.settings.backlight.scalars
         let limited : Nat := min target s.backlight.effectiveCap
         let level : Nat := (if s.backlight.level < limited then min (s.backlight.level + c.slew) limited
           else max (s.backlight.level - c.slew) limited)
         t = finish { s with backlight := { s.backlight with
              level := level,
              duty := (if level = 0 then 0 else c.dmin + (level * (c.dmax - c.dmin) + 500) / 1000),
              blEn := decide (level ≠ 0),
              rampSince := s.backlight.rampSince + 10 } })) ∧
      (s.supply = .run → BacklightWf s → 10 ≤ (s.timeBase - s.backlight.rampSince).toNat → (s.backlight.lidClosed = true ∨ s.store.settings.backlight.scalars.mode = .off ∨ s.backlight.target = none) →
            exec (.rampTick) s = .next (finish { s with backlight := { s.backlight with rampSince := s.backlight.rampSince + 10 } })) ∧
      (s.supply = .run → (s.timeBase - s.backlight.rampSince).toNat < 10 →
            exec (.rampTick) s = .next (finish s)) ∧
      (s.supply ≠ .run →
            exec (.rampTick) s = .next (s))

/-- SET_BACKLIGHT stores and echoes the clamped scalars; mode, level, bias or hysteresis move the target, and caps, level and duty follow (section 7.2, section 7.3, section 7.4, section 7.6). Where the spec leaves a point open it states the model's choice: logs 23 and 46. -/
def Obligations.SetBacklightStores : Prop :=
  ∀ (s : State) (tag : Byte) (p : List Byte) (mode : BacklightMode),
    Ready 0x33 tag p s →
    p.length = 19 →
    u8 p 0 = mode.code →
    BacklightWf s →
    max (-400) (min (s16 p 11) 1500) < max (-400) (min (s16 p 13) 1500) →
    ∃ t, exec (.setBacklight tag p) s = .next t ∧
      (let old : BacklightScalars := s.store.settings.backlight.scalars
       let dmin : Nat := max 1 (min (u16 p 7) 4094)
       let new : BacklightScalars := {
         mode := mode, manual := min (u16 p 1) 1000, bias := max (-300) (min (s16 p 3) 300), hysteresis := min (u8 p 5) 100,
         slew := max 1 (min (u8 p 6) 50), dmin := dmin, dmax := max (dmin + 1) (min (u16 p 9) 4095),
         ts := max (-400) (min (s16 p 11) 1500), te := max (-400) (min (s16 p 13) 1500), cmin := min (u16 p 15) 1000,
         unknownCap := min (u16 p 17) 1000 }
       let c : BacklightSettings := { s.store.settings.backlight with scalars := new }
       let moved : Bool := decide (new.manual ≠ u16 p 1 ∨ new.bias ≠ s16 p 3 ∨ new.hysteresis ≠ u8 p 5 ∨ new.slew ≠ u8 p 6 ∨
         new.dmin ≠ u16 p 7 ∨ new.dmax ≠ u16 p 9 ∨ new.ts ≠ s16 p 11 ∨ new.te ≠ s16 p 13 ∨ new.cmin ≠ u16 p 15 ∨
         new.unknownCap ≠ u16 p 17)
       let level (x : Nat) : Nat := (max 0 (min ((curveLevel c.curve x : Int) + new.bias) 1000)).toNat
       let target : Option Nat := (if s.backlight.lidClosed = true then none
         else if old.mode ≠ mode then
         (match mode with | .auto => s.backlight.ambient.map level | .manual => some new.manual | .off => none)
         else if mode = .manual ∧ old.manual ≠ new.manual then some new.manual
         else if mode = .auto ∧ (old.bias ≠ new.bias ∨ old.hysteresis ≠ new.hysteresis) then
         (match s.backlight.ambient, s.backlight.target with
         | some x, some g => some (if (new.hysteresis : Int) ≤ |(level x : Int) - g| then level x else g)
         | some x, none => some (level x)
         | none, g => g)
         else s.backlight.target)
       t = { s.answered t 0x33 tag p ((if moved = true then 1 else 0) :: le16 new.manual ++ sle16 new.bias ++
              le8 new.hysteresis ++ le8 new.slew ++ le16 new.dmin ++ le16 new.dmax ++ sle16 new.ts ++ sle16 new.te ++
              le16 new.cmin ++ le16 new.unknownCap) with
            store := Store.withWord { s.store with settings := { s.store.settings with backlight := c } },
            backlight := { s.backlight with
              target := target,
              level := (if mode = .off then 0 else min s.backlight.level t.backlight.effectiveCap),
              thermalCap := t.backlight.thermalCap, effectiveCap := t.backlight.effectiveCap,
              binding := t.backlight.binding, duty := t.backlight.duty, blEn := t.backlight.blEn } } ∧
          (s.backlight.temperature = none → t.backlight.thermalCap = new.unknownCap) ∧
          (∀ g ∈ s.backlight.temperature.toList, (t.backlight.thermalCap : Int) = (if g ≤ new.ts then 1000
            else if new.te ≤ g then (new.cmin : Int)
            else 1000 - ((1000 - (new.cmin : Int)) * (g - new.ts)) / (new.te - new.ts))) ∧
          t.backlight.powerCap = (match s.backlight.condition with
            | .full => c.caps.full | .single => c.caps.single | .low => c.caps.low
            | .transfer => c.caps.transfer | .noSupply => c.caps.noSupply) ∧
          t.backlight.effectiveCap = min t.backlight.powerCap t.backlight.thermalCap ∧
          t.backlight.duty = (if t.backlight.level = 0 then 0
            else c.scalars.dmin + (t.backlight.level * (c.scalars.dmax - c.scalars.dmin) + 500) / 1000) ∧
          t.backlight.blEn = decide (t.backlight.level ≠ 0) ∧
          t.backlight.binding = t.backlight.target.any (fun g => decide (t.backlight.effectiveCap < g)) ∧
          BindingPosted s t)

/-- SET_CURVE replaces the curve and in AUTO sets the target directly; GET_BACKLIGHT reports light, target, caps, level and lid (section 7.2, section 7.6, section 1.3). Where the spec leaves a point open it states the model's choice: log 10. -/
def Obligations.CurveAndReport : Prop :=
  ∀ (s : State) (tag : Byte) (p : List Byte),
    (Ready 0x31 tag p s → p.length = 1 + 4 * u8 p 0 → malformed 0x31 p = false → BacklightWf s →
            ∃ t, exec (.setCurve tag p) s = .next t ∧ (let points : List CurvePoint := (List.range (u8 p 0)).map fun i =>
           { lux := min (u32 p (1 + 4 * i) / 1024) 131040, level := min (u32 p (1 + 4 * i) % 1024) 1000 }
         let clamped : Bool := (List.range (u8 p 0)).any fun i =>
           decide (131040 < u32 p (1 + 4 * i) / 1024 ∨ 1000 < u32 p (1 + 4 * i) % 1024)
         let c : BacklightSettings := { s.store.settings.backlight with curve := points }
         let target : Option Nat := (if c.scalars.mode = .auto ∧ s.backlight.lidClosed = false ∧ s.backlight.ambient.isSome = true
           then s.backlight.ambient.map (fun x => (max 0 (min ((curveLevel points x : Int) + c.scalars.bias) 1000)).toNat)
           else s.backlight.target)
         t = { s.answered t 0x31 tag p [if clamped = true then 1 else 0] with
              store := Store.withWord { s.store with settings := { s.store.settings with backlight := c } },
              backlight := { s.backlight with
                target := target,
                binding := target.any (fun g => decide (s.backlight.effectiveCap < g)) } } ∧
            BindingPosted s t)) ∧
      (Ready 0x34 tag [] s →
            exec (.getBacklight tag []) s = .next ({ s.replied 0x34 tag [] (0 ::
          le8 (match s.store.settings.backlight.scalars.mode with | .auto => 0 | .manual => 1 | .off => 2) ++
          (match s.ambient.filter with
            | some f => (1 : Byte) :: le32 (f.avg / 4)
            | none => 0 :: (List.range 4).map fun i => Config.ignoredByte (s.freeCount + i)) ++
          le8 (match s.ambient.validity with | .pending => 0 | .valid => 1 | .invalid => 2) ++
          le8 (match s.ambient.range with | .low => 0 | .high => 1) ++
          (match s.backlight.target with
            | some g => (1 : Byte) :: le16 g
            | none => 0 :: (List.range 2).map fun i => Config.ignoredByte (s.freeCount + 4 + i)) ++
          le16 s.backlight.powerCap ++ le16 s.backlight.thermalCap ++
          (match s.backlight.temperature with
            | some v => (1 : Byte) :: sle16 v
            | none => 0 :: (List.range 2).map fun i => Config.ignoredByte (s.freeCount + 6 + i)) ++
          le16 s.backlight.level ++ le16 s.backlight.duty ++
          [if s.backlight.lidClosed then 1 else 0, flagByte [s.backlight.blEn, s.backlight.binding]]) with
        freeCount := s.freeCount + 16 }))

/-- SET_CAPS stores and echoes the five caps, recomputes the power cap, cuts the level at once and judges the binding (section 7.4, section 7.5, section 7.6). Where the spec leaves a point open it states the model's choice: log 46. -/
def Obligations.SetCapsStores : Prop :=
  ∀ (s : State) (tag : Byte) (p : List Byte),
    Ready 0x35 tag p s →
    p.length = 10 →
    BacklightWf s →
    ∃ t, exec (.setCaps tag p) s = .next t ∧
      (let caps : Caps := {
         full := min (u16 p 0) 1000, single := min (u16 p 2) 1000, low := min (u16 p 4) 1000, transfer := min (u16 p 6) 1000,
         noSupply := min (u16 p 8) 1000 }
       let c : BacklightSettings := { s.store.settings.backlight with caps := caps }
       let moved : Bool := decide (1000 < u16 p 0 ∨ 1000 < u16 p 2 ∨ 1000 < u16 p 4 ∨ 1000 < u16 p 6 ∨ 1000 < u16 p 8)
       let reply : List Byte := (if moved = true then (1 : Byte) else 0) :: le16 caps.full ++ le16 caps.single ++ le16 caps.low ++
         le16 caps.transfer ++ le16 caps.noSupply
       reply.length = 11 ∧
          t = { s.answered t 0x35 tag p reply with
            store := Store.withWord { s.store with settings := { s.store.settings with backlight := c } },
            backlight := { s.backlight with
              powerCap := t.backlight.powerCap, effectiveCap := t.backlight.effectiveCap,
              level := min s.backlight.level t.backlight.effectiveCap,
              binding := t.backlight.binding, duty := t.backlight.duty, blEn := t.backlight.blEn } } ∧
          t.backlight.powerCap = (match s.backlight.condition with
            | .full => c.caps.full | .single => c.caps.single | .low => c.caps.low
            | .transfer => c.caps.transfer | .noSupply => c.caps.noSupply) ∧
          t.backlight.effectiveCap = min t.backlight.powerCap t.backlight.thermalCap ∧
          t.backlight.duty = (if t.backlight.level = 0 then 0
            else c.scalars.dmin + (t.backlight.level * (c.scalars.dmax - c.scalars.dmin) + 500) / 1000) ∧
          t.backlight.blEn = decide (t.backlight.level ≠ 0) ∧
          t.backlight.binding = t.backlight.target.any (fun g => decide (t.backlight.effectiveCap < g)) ∧
          BindingPosted s t)

/-- SET_MOTION stores and echoes the twelve settings, and the port goes where the changed fields send it, ending a drop or a check (section 8.2, section 8.3, section 8.5, section 9.6). Where the spec leaves a point open it states the model's choice: logs 15, 18 and 20. -/
def Obligations.SetMotionStores : Prop :=
  ∀ (s : State) (tag : Byte) (p : List Byte) (rate : Rate),
    Ready 0x40 tag p s →
    p.length = 17 →
    u8 p 0 ≤ 1 →
    rate? (u8 p 1) = some rate →
    MotionWf s →
    DropWf s →
    ∃ t, exec (.setMotion tag p) s = .next t ∧
      (let old : MotionScalars := s.store.settings.motion.scalars
       let new : MotionScalars := {
         enable := decide (u8 p 0 = 1), rate := rate, w := max 1 (min (u8 p 2) 16), scale := max 1 (min (u16 p 3) 4096),
         address := BitVec.ofNat 8 (min (u8 p 5) 127), tff := max 100 (min (u16 p 6) 1000),
         timp := max 1500 (min (u16 p 8) 16000), fallConfirm := max 20 (min (u8 p 10) 200),
         returnTime := max 8 (min (u8 p 11) 100), impactQuiet := max 10 (min (u8 p 12) 200),
         guardTime := max 100 (min (u16 p 13) 2000), maxFall := max 200 (min (u16 p 15) 3000) }
       let moved : Bool := decide (new.w ≠ u8 p 2 ∨ new.scale ≠ u16 p 3 ∨ new.address ≠ byteAt p 5 ∨ new.tff ≠ u16 p 6 ∨
         new.timp ≠ u16 p 8 ∨ new.fallConfirm ≠ u8 p 10 ∨ new.returnTime ≠ u8 p 11 ∨ new.impactQuiet ≠ u8 p 12 ∨
         new.guardTime ≠ u16 p 13 ∨ new.maxFall ≠ u16 p 15)
       let off : Bool := old.enable && !new.enable
       let afresh : Bool := new.enable && (!old.enable || decide (old.rate ≠ new.rate))
       let back : Bool := decide (s.motion.port = .checking ∧ new.enable = true ∧ old.rate = new.rate ∧
         (old.w ≠ new.w ∨ old.scale ≠ new.scale ∨ old.address ≠ new.address))
       let ended : Bool := decide (s.motion.port = .streaming) && (off || afresh)
       let written : Store := (match s.drop.record with
         | some r => if ended = true then s.store.write (r.complete true s.drop.fallCount old.rate) else s.store
         | none => s.store)
       let list : List SetupEntry := s.store.settings.motion.setupList
       let call : Option BurstCall := if list = [] ∧ s.pins.mint = true then some .level else none
       let waiting : Option BurstCall := s.motion.burstWaiting.or (if s.pins.mint = true then some .level else none)
       t = { s.answered t 0x40 tag p ((if moved = true then 1 else 0) :: le8 new.w ++ le16 new.scale ++ [new.address] ++
              le16 new.tff ++ le16 new.timp ++ le8 new.fallConfirm ++ le8 new.returnTime ++ le8 new.impactQuiet ++
              le16 new.guardTime ++ le16 new.maxFall) with
            store := Store.withWord { written with
              settings := { s.store.settings with motion := { s.store.settings.motion with scalars := new } } },
            motion := t.motion, drop := t.drop, power := t.power, locks := t.locks, backlight := t.backlight } ∧
          (off = true → t.motion = { s.motion with
            port := .off, badCount := 0, burstPending := none, burstWaiting := none, stall := none, retry := none,
            result := t.motion.result,
            bus := s.busLeft }) ∧
          (afresh = true → t.motion = { s.motion with
            port := (if list = [] then .streaming else .setup), badCount := 0, burstPending := none, retry := none,
            burstWaiting := (if s.busLeft = .idle then none else call),
            stall := (if list = [] then some ⟨s.timeBase, (4000 * new.w + new.rate.hz - 1) / new.rate.hz + 20⟩ else none),
            setup := {
              entry := 0, byRetry := false, waitSince := (match list.head? with | some (.wait _) => some s.timeBase | _ => none) },
            failEntry := (if list = [] then 0 else s.motion.failEntry),
            result := t.motion.result,
            bus := (s.busLeft.withEntry list.head?).withBurst new call s.timeBase } ∧
            (list = [] → Posted s t .motionStreaming)) ∧
          (back = true → t.motion = { s.motion with
              port := .streaming,
              burstWaiting := (if s.busLeft = .idle then none else waiting),
              result := t.motion.result,
              bus := s.busLeft.withBurst new waiting s.timeBase } ∧
            t.drop = { s.drop with state := .calm, lowRun := 0 }) ∧
          (off = false → afresh = false → back = false → t.motion = s.motion ∧ t.drop = s.drop ∧ t.locks = s.locks ∧
            t.power = s.power ∧ t.backlight = s.backlight ∧ t.link.notices = s.link.notices) ∧
          (ended = true → (t.drop.state = .suspended ∧ t.drop.park = false ∧ t.drop.contactGuard = false ∧ t.drop.record = none ∧
              t.locks.a.reasons.drop = false ∧ t.locks.b.reasons.drop = false)) ∧
          (ended = true → s.drop.record.isSome = true → Posted s t .dropRecord) ∧
          (s.motion.port = .checking → (off = true ∨ afresh = true ∨ back = true) → (t.motion.result = {
              outcome := .aborted,
              stage := (match s.motion.check.phase with | .baseline => 1 | .onSettle | .on => 2 | .offSettle | .ret => 3),
              baseline := s.motion.check.baseline, delta := s.motion.check.delta } ∧ Posted s t .checkDone)) ∧
          (s.motion.port ≠ .checking → t.motion.result = s.motion.result))

/-- SET_SETUP_LIST replaces the list, and unless the port is OFF the list runs afresh, ending a drop or aborting a check (section 8.2, section 8.3, section 8.5, section 9.6). Where the spec leaves a point open it states the model's choice: log 20. -/
def Obligations.SetSetupListStores : Prop :=
  ∀ (s : State) (tag : Byte) (p : List Byte),
    Ready 0x41 tag p s →
    p.length = 1 + 4 * u8 p 0 →
    malformed 0x41 p = false →
    MotionWf s →
    DropWf s →
    ∃ t, exec (.setSetupList tag p) s = .next t ∧
      (let list : List SetupEntry := (List.range (u8 p 0)).map fun i => (match u8 p (1 + 4 * i) with
         | 0 => .write (BitVec.ofNat 8 (min (u8 p (2 + 4 * i)) 127)) (byteAt p (3 + 4 * i))
         | 1 => .check (BitVec.ofNat 8 (min (u8 p (2 + 4 * i)) 127)) (byteAt p (3 + 4 * i)) (byteAt p (4 + 4 * i))
         | _ => .wait (max 1 (min (u8 p (2 + 4 * i)) 100)))
       let clamped : Bool := (List.range (u8 p 0)).any fun i => decide (100 < u8 p (2 + 4 * i) ∧ u8 p (1 + 4 * i) = 2 ∨
         u8 p (2 + 4 * i) = 0 ∧ u8 p (1 + 4 * i) = 2 ∨ 127 < u8 p (2 + 4 * i))
       let written : Store := (match s.drop.record with
         | some r => s.store.write (r.complete true s.drop.fallCount s.store.settings.motion.scalars.rate)
         | none => s.store)
       let c : MotionScalars := s.store.settings.motion.scalars
       let call : Option BurstCall := if list = [] ∧ s.pins.mint = true then some .level else none
       t = { s.answered t 0x41 tag p [if clamped = true then 1 else 0] with
            store := Store.withWord { written with
              settings := { s.store.settings with motion := { s.store.settings.motion with setupList := list } } },
            motion := t.motion, drop := t.drop, power := t.power, locks := t.locks, backlight := t.backlight } ∧
          (s.motion.port = .off → t.motion = s.motion ∧ t.drop = s.drop ∧ t.locks = s.locks ∧ t.power = s.power ∧
            t.backlight = s.backlight ∧ t.link.notices = s.link.notices) ∧
          (s.motion.port ≠ .off → t.motion = { s.motion with
            port := (if list = [] then .streaming else .setup), badCount := 0, burstPending := none, retry := none,
            burstWaiting := (if s.busLeft = .idle then none else call),
            stall := (if list = [] then some ⟨s.timeBase, (4000 * c.w + c.rate.hz - 1) / c.rate.hz + 20⟩ else none),
            setup := {
              entry := 0, byRetry := false, waitSince := (match list.head? with | some (.wait _) => some s.timeBase | _ => none) },
            failEntry := (if list = [] then 0 else s.motion.failEntry),
            result := t.motion.result,
            bus := (s.busLeft.withEntry list.head?).withBurst c call s.timeBase } ∧
            (list = [] → Posted s t .motionStreaming)) ∧
          (s.motion.port = .streaming → (t.drop.state = .suspended ∧ t.drop.park = false ∧ t.drop.contactGuard = false ∧ t.drop.record = none ∧
              t.locks.a.reasons.drop = false ∧ t.locks.b.reasons.drop = false)) ∧
          (s.drop.record.isSome = true → Posted s t .dropRecord) ∧
          (s.motion.port = .checking → (t.motion.result = {
              outcome := .aborted,
              stage := (match s.motion.check.phase with | .baseline => 1 | .onSettle | .on => 2 | .offSettle | .ret => 3),
              baseline := s.motion.check.baseline, delta := s.motion.check.delta } ∧ Posted s t .checkDone)) ∧
          (s.motion.port ≠ .checking → t.motion.result = s.motion.result))

/-- SET_CHECK_LISTS stores unless CHECKING, SELF_CHECK starts a check from STREAMING and CALM alone, GET_MOTION reports (section 8.5, section 8.6, section 9.2, section 10.2). Where the spec leaves a point open it states the model's choice: log 11. -/
def Obligations.CheckRequests : Prop :=
  ∀ (s : State) (tag : Byte) (p : List Byte),
    (Ready 0x42 tag p s → p.length = 8 + 2 * (u8 p 0 + u8 p (1 + 2 * u8 p 0)) → malformed 0x42 p = false → s.motion.port = .checking →
            exec (.setCheckLists tag p) s = .next (s.replied 0x42 tag p [7])) ∧
      (Ready 0x42 tag p s → p.length = 8 + 2 * (u8 p 0 + u8 p (1 + 2 * u8 p 0)) → malformed 0x42 p = false → s.motion.port ≠ .checking →
            ∃ t, exec (.setCheckLists tag p) s = .next t ∧ (let o : Nat := 2 + 2 * u8 p 0
         let e : Nat := o + 2 * u8 p (1 + 2 * u8 p 0)
         let check : CheckSettings := {
           onList := (List.range (u8 p 0)).map fun i =>
           { address := BitVec.ofNat 8 (min (u8 p (1 + 2 * i)) 127), value := byteAt p (2 + 2 * i) },
           offList := (List.range (u8 p (1 + 2 * u8 p 0))).map fun i =>
           { address := BitVec.ofNat 8 (min (u8 p (o + 2 * i)) 127), value := byteAt p (o + 1 + 2 * i) },
           deltaMin := min (u16 p e) 16000,
           deltaMax := max (min (u16 p e) 16000) (min (u16 p (e + 2)) 16000),
           tolerance := min (u16 p (e + 4)) 2000 }
         let moved : Bool := decide (check.deltaMin ≠ u16 p e ∨ check.deltaMax ≠ u16 p (e + 2) ∨ check.tolerance ≠ u16 p (e + 4)) ||
           ((List.range (u8 p 0)).any fun i => decide (127 < u8 p (1 + 2 * i))) ||
           ((List.range (u8 p (1 + 2 * u8 p 0))).any fun i => decide (127 < u8 p (o + 2 * i)))
         t = { s.replied 0x42 tag p ((if moved = true then 1 else 0) ::
                le16 check.deltaMin ++ le16 check.deltaMax ++ le16 check.tolerance) with
              store := Store.withWord { s.store with
                settings := { s.store.settings with motion := { s.store.settings.motion with check := check } } } })) ∧
      (Ready 0x43 tag [] s → s.motion.port = .streaming → s.drop.state = .calm →
            exec (.selfCheck tag []) s = .next ({ s.replied 0x43 tag [] [2] with
            motion := { s.motion with
              port := .checking,
              check := { phase := .baseline, count := 0, sum := ⟨0, 0, 0⟩, baseline := ⟨0, 0, 0⟩, delta := ⟨0, 0, 0⟩ } },
            drop := { s.drop with state := .suspended } })) ∧
      (Ready 0x43 tag [] s → (s.motion.port ≠ .streaming ∨ s.drop.state ≠ .calm) →
            exec (.selfCheck tag []) s = .next (s.replied 0x43 tag [] [7])) ∧
      (Ready 0x44 tag [] s →
            ∃ t, exec (.getMotion tag []) s = .next t ∧ (let word (v : Int) : List Byte :=
           (if -32768 ≤ v ∧ v ≤ 32767 then sle16 v else le16 (Config.wideMotionWord v).toNat)
         let words (v : Vec3) : List Byte := word v.x ++ word v.y ++ word v.z
         let reply : List Byte := (0 : Byte) ::
           le8 (match s.motion.port with | .off => 0 | .setup => 1 | .streaming => 2 | .lost => 3 | .checking => 4) ++
           le8 (match s.motion.burstStatus with | .noBurst => 0 | .complete => 1 | .bad => 2) ++
           le8 s.motion.badCount ++ le8 s.motion.failEntry ++ le32 s.motion.nextIndex.toNat ++
           le8 (match s.motion.result.outcome with | .noCheck => 0 | .pass => 1 | .fail => 2 | .aborted => 3) ++
           le8 s.motion.result.stage ++ words s.motion.result.baseline ++ words s.motion.result.delta ++
           le8 (match s.drop.state with | .suspended => 0 | .calm => 1 | .falling => 2 | .impact => 3 | .recover => 4) ++
           le32 (if s.store.nextSeq = 4294967295 then 1 else s.store.nextSeq)
         reply.length = 28 ∧ t = s.replied 0x44 tag [] reply))

/-- Setup entries end one after another; the last begins STREAMING, a failed CHECK gives LOST, and the retry timer begins a run (section 8.3, section 8.4). Where the spec leaves a point open it states the model's choice: logs 18 and 20. -/
def Obligations.SetupRun : Prop :=
  ∀ (s : State) (byte : Byte) (entry : SetupEntry) (next : SetupEntry) (since : Moment) (ms : Nat) (sent : List Byte) (left : List ListWrite),
    s.supply = .run →
    MotionWf s →
    DropWf s →
    (s.motion.port = .setup → s.motion.bus = .setupTransfer sent → s.store.settings.motion.setupList[s.motion.setup.entry]? = some entry → (match entry with
          | .write _ _ => true
          | .check _ expected mask => (byte ^^^ expected) &&& mask == 0
          | .wait _ => false) = true → s.store.settings.motion.setupList[s.motion.setup.entry + 1]? = some next →
            exec (.setupEntryEnd byte) s = .next (finish { s with motion := { s.motion with
              setup := { s.motion.setup with
                entry := s.motion.setup.entry + 1,
                waitSince := (match next with | .wait _ => some s.timeBase | _ => none) },
              bus := (match next with
                | .wait _ => .idle
                | .write a v => .setupTransfer [a &&& 0x7F, v]
                | .check a _ _ => .setupTransfer [a ||| 0x80]) } })) ∧
      (s.motion.port = .setup → s.motion.bus = .setupTransfer sent → s.store.settings.motion.setupList[s.motion.setup.entry]? = some entry → (match entry with
          | .write _ _ => true
          | .check _ expected mask => (byte ^^^ expected) &&& mask == 0
          | .wait _ => false) = true → s.store.settings.motion.setupList[s.motion.setup.entry + 1]? = none →
            ∃ t, exec (.setupEntryEnd byte) s = .next t ∧ (let c : MotionScalars := s.store.settings.motion.scalars
         t = { s.acted t with motion := { s.motion with
              port := .streaming, failEntry := 0,
              stall := some ⟨s.timeBase, (4000 * c.w + c.rate.hz - 1) / c.rate.hz + 20⟩,
              setup := { s.motion.setup with entry := s.motion.setup.entry + 1, waitSince := none },
              bus := (if s.pins.mint = true then .burst c.w (c.address ||| 0x80) s.timeBase else .idle) } } ∧
            Posted s t .motionStreaming)) ∧
      (s.motion.port = .setup → s.motion.bus = .setupTransfer sent → s.store.settings.motion.setupList[s.motion.setup.entry]? = some entry → (match entry with | .check _ expected mask => (byte ^^^ expected) &&& mask != 0 | _ => false) = true →
            ∃ t, exec (.setupEntryEnd byte) s = .next t ∧ (t = { s.acted t with motion := { s.motion with
              port := .lost, failEntry := s.motion.setup.entry + 1, badCount := 0, retry := some s.timeBase, bus := .idle } } ∧
            (s.motion.setup.byRetry = false → Posted s t .motionLost) ∧
            (s.motion.setup.byRetry = true → s.link.ltx.isSome = true → t.link.notices = s.link.notices))) ∧
      (s.motion.port = .setup → s.motion.bus = .idle → s.store.settings.motion.setupList[s.motion.setup.entry]? = some (.wait ms) → s.motion.setup.waitSince = some since → ms ≤ (s.timeBase - since).toNat → s.store.settings.motion.setupList[s.motion.setup.entry + 1]? = some next →
            exec (.setupWaitExpiry) s = .next (finish { s with motion := { s.motion with
              setup := { s.motion.setup with
                entry := s.motion.setup.entry + 1,
                waitSince := (match next with | .wait _ => some s.timeBase | _ => none) },
              bus := (match next with
                | .wait _ => .idle
                | .write a v => .setupTransfer [a &&& 0x7F, v]
                | .check a _ _ => .setupTransfer [a ||| 0x80]) } })) ∧
      (s.motion.port = .setup → s.store.settings.motion.setupList[s.motion.setup.entry]? = some (.wait ms) → s.motion.setup.waitSince = some since → (s.timeBase - since).toNat < ms →
            exec (.setupWaitExpiry) s = .next (finish s)) ∧
      (s.motion.port = .lost → s.motion.retry = some since → s.motion.bus = .idle → 500 ≤ (s.timeBase - since).toNat → s.store.settings.motion.setupList[0]? = some next →
            exec (.retryExpiry) s = .next (finish { s with motion := { s.motion with
            port := .setup, badCount := 0, retry := none,
            setup := {
              entry := 0, byRetry := true, waitSince := (match next with | .wait _ => some s.timeBase | _ => none) },
            bus := (match next with
                | .wait _ => .idle
                | .write a v => .setupTransfer [a &&& 0x7F, v]
                | .check a _ _ => .setupTransfer [a ||| 0x80]) } })) ∧
      (s.motion.port = .lost → s.motion.retry = some since → (s.timeBase - since).toNat < 500 →
            exec (.retryExpiry) s = .next (finish s)) ∧
      (s.motion.port = .setup → s.motion.bus = .idle → s.store.settings.motion.setupList[s.motion.setup.entry]? = some (.wait ms) → s.motion.setup.waitSince = some since → ms ≤ (s.timeBase - since).toNat → s.store.settings.motion.setupList[s.motion.setup.entry + 1]? = none →
            ∃ t, exec (.setupWaitExpiry) s = .next t ∧ (let c : MotionScalars := s.store.settings.motion.scalars
         t = { s.acted t with motion := { s.motion with
              port := .streaming, failEntry := 0,
              stall := some ⟨s.timeBase, (4000 * c.w + c.rate.hz - 1) / c.rate.hz + 20⟩,
              setup := { s.motion.setup with entry := s.motion.setup.entry + 1, waitSince := none },
              burstWaiting := (if s.pins.mint = true ∧ s.motion.bus ≠ .idle then some .level else none),
              bus := (if s.pins.mint = true ∧ s.motion.bus = .idle
                then .burst c.w (c.address ||| 0x80) s.timeBase else s.motion.bus) } } ∧
            Posted s t .motionStreaming)) ∧
      (s.motion.port = .lost → s.motion.retry = some since → s.motion.bus = .listWrite .abortOff left → 500 ≤ (s.timeBase - since).toNat → s.store.settings.motion.setupList[0]? = some next →
            exec (.retryExpiry) s = .next (finish { s with motion := { s.motion with
            port := .setup, badCount := 0, retry := none,
            setup := {
              entry := 0, byRetry := true, waitSince := (match next with | .wait _ => some s.timeBase | _ => none) } } })) ∧
      (s.motion.port = .lost → s.motion.retry = some since → s.motion.bus = .idle ∨ s.motion.bus = .listWrite .abortOff left → 500 ≤ (s.timeBase - since).toNat → s.store.settings.motion.setupList = [] →
            ∃ t, exec (.retryExpiry) s = .next t ∧ (let c : MotionScalars := s.store.settings.motion.scalars
         t = { s.acted t with motion := { s.motion with
              port := .streaming, failEntry := 0, badCount := 0, retry := none,
              stall := some ⟨s.timeBase, (4000 * c.w + c.rate.hz - 1) / c.rate.hz + 20⟩,
              setup := { entry := 0, byRetry := true, waitSince := none },
              burstWaiting := (if s.pins.mint = true ∧ s.motion.bus ≠ .idle then some .level else none),
              bus := (if s.pins.mint = true ∧ s.motion.bus = .idle
                then .burst c.w (c.address ||| 0x80) s.timeBase else s.motion.bus) } } ∧
            Posted s t .motionStreaming))

/-- A MINT assertion starts a burst, waits for a list write or sets the pending flag, and restarts the stall timer, whose expiry gives LOST (section 8.3, section 8.4, section 8.5, section 9.6). Where the spec leaves a point open it states the model's choice: logs 18, 19, 20 and 35. -/
def Obligations.MintAndStall : Prop :=
  ∀ (s : State) (w : Nat) (address : Byte) (time : Moment) (list : WriteList) (left : List ListWrite) (timer : Timer),
    (s.supply = .run → s.pins.mint = false → s.motion.port.watchesMint = true → s.motion.bus = .idle → s.motion.burstWaiting = none →
            exec (.mintAssert) s = .next (finish { s with
            pins := { s.pins with mint := true },
            motion := { s.motion with
              stall := some ⟨s.timeBase, (4000 * s.store.settings.motion.scalars.w + s.store.settings.motion.scalars.rate.hz - 1) /
                s.store.settings.motion.scalars.rate.hz + 20⟩,
              bus := .burst s.store.settings.motion.scalars.w (s.store.settings.motion.scalars.address ||| 0x80) s.timeBase } })) ∧
      (s.supply = .run → s.pins.mint = false → s.motion.port.watchesMint = true → s.motion.bus = .burst w address time →
            exec (.mintAssert) s = .next (finish { s with
            pins := { s.pins with mint := true },
            motion := { s.motion with
              stall := some ⟨s.timeBase, (4000 * s.store.settings.motion.scalars.w + s.store.settings.motion.scalars.rate.hz - 1) /
                s.store.settings.motion.scalars.rate.hz + 20⟩,
              burstPending := some (s.motion.burstPending.getD s.timeBase) } })) ∧
      (s.supply = .run → s.pins.mint = false → s.motion.port.watchesMint = true → s.motion.bus = .listWrite list left → s.motion.burstWaiting = none →
            exec (.mintAssert) s = .next (finish { s with
            pins := { s.pins with mint := true },
            motion := { s.motion with
              stall := some ⟨s.timeBase, (4000 * s.store.settings.motion.scalars.w + s.store.settings.motion.scalars.rate.hz - 1) /
                s.store.settings.motion.scalars.rate.hz + 20⟩,
              burstWaiting := some (.assertion s.timeBase) } })) ∧
      (s.supply = .run → s.pins.mint = false → s.motion.port.watchesMint = true → (s.motion.bus = .idle ∨ s.motion.bus = .listWrite list left) → s.motion.burstWaiting.isSome = true →
            exec (.mintAssert) s = .next (finish { s with pins := { s.pins with mint := true } })) ∧
      (s.supply = .run → (s.pins.mint = true ∨ s.motion.port.watchesMint = false) →
            exec (.mintAssert) s = .next (finish { s with pins := { s.pins with mint := true } })) ∧
      (s.supply ≠ .run →
            exec (.mintAssert) s = .next ({ s with pins := { s.pins with mint := true } })) ∧
      (s.supply = .run → MotionWf s → DropWf s → s.motion.stall = some timer → timer.length ≤ (s.timeBase - timer.since).toNat →
            ∃ t, exec (.stallExpiry) s = .next t ∧ (t = { s.acted t with
              store := (match s.drop.record with
                | some r => s.store.write (r.complete true s.drop.fallCount s.store.settings.motion.scalars.rate)
                | none => s.store),
              motion := { s.motion with
                port := .lost, badCount := 0, burstPending := none, burstWaiting := none, stall := none,
                retry := some s.timeBase, result := t.motion.result, bus := s.busLeft },
              drop := t.drop, power := t.power, locks := t.locks, backlight := t.backlight } ∧
            (t.drop.state = .suspended ∧ t.drop.park = false ∧ t.drop.contactGuard = false ∧ t.drop.record = none ∧
                t.locks.a.reasons.drop = false ∧ t.locks.b.reasons.drop = false) ∧
            Posted s t .motionLost ∧ (s.drop.record.isSome = true → Posted s t .dropRecord) ∧
            (s.motion.port = .checking → (t.motion.result = {
                outcome := .aborted,
                stage := (match s.motion.check.phase with | .baseline => 1 | .onSettle | .on => 2 | .offSettle | .ret => 3),
                baseline := s.motion.check.baseline, delta := s.motion.check.delta } ∧ Posted s t .checkDone)) ∧
            (s.motion.port ≠ .checking → t.motion.result = s.motion.result))) ∧
      (s.supply = .run → s.motion.stall = some timer → (s.timeBase - timer.since).toNat < timer.length →
            exec (.stallExpiry) s = .next (finish s))

/-- A BAD burst counts toward LOST; a COMPLETE one hands its W samples, formed by scale and rate, to the drop detector or the check (section 8.4, section 8.5, section 9.2). Where the spec leaves a point open it states the model's choice: logs 3, 18, 20, 40 and 41. -/
def Obligations.BurstsEnd : Prop :=
  ∀ (s : State) (w : Nat) (address : Byte) (bytes : List Byte) (time : Moment) (list : WriteList) (x : ListWrite) (left : List ListWrite),
    (s.supply = .run → s.motion.bus = .burst w address time → bytes.length = 6 * w → s.motion.port = .streaming → (bytes.all (· == 0) || bytes.all (· == 255)) = true → s.motion.badCount ≤ 1 → s.motion.burstWaiting = none →
            exec (.burstEnd bytes) s = .next (finish { s with motion := { s.motion with
              burstStatus := .bad, badCount := s.motion.badCount + 1, burstPending := none,
              bus := (match s.motion.burstPending with
                | some m => .burst s.store.settings.motion.scalars.w (s.store.settings.motion.scalars.address ||| 0x80) m
                | none =>
                  if s.pins.mint = true then
                    .burst s.store.settings.motion.scalars.w (s.store.settings.motion.scalars.address ||| 0x80) s.timeBase
                  else .idle) } })) ∧
      (s.supply = .run → s.motion.bus = .burst w address time → bytes.length = 6 * w → s.motion.port = .streaming → (bytes.all (· == 0) || bytes.all (· == 255)) = true → s.motion.badCount = 2 → MotionWf s → DropWf s →
            ∃ t, exec (.burstEnd bytes) s = .next t ∧ (t = { s.acted t with
              store := (match s.drop.record with
                | some r => s.store.write (r.complete true s.drop.fallCount s.store.settings.motion.scalars.rate)
                | none => s.store),
              motion := { s.motion with
                port := .lost, burstStatus := .bad, badCount := 0, burstPending := none, burstWaiting := none,
                stall := none, retry := some s.timeBase, bus := .idle },
              drop := t.drop, power := t.power, locks := t.locks, backlight := t.backlight } ∧
            (t.drop.state = .suspended ∧ t.drop.park = false ∧ t.drop.contactGuard = false ∧ t.drop.record = none ∧
                t.locks.a.reasons.drop = false ∧ t.locks.b.reasons.drop = false) ∧
            Posted s t .motionLost ∧ (s.drop.record.isSome = true → Posted s t .dropRecord))) ∧
      (s.supply = .run → s.motion.bus = .burst w address time → bytes.length = 6 * w → s.motion.port = .checking → (bytes.all (· == 0) || bytes.all (· == 255)) = true → MotionWf s → DropWf s → s.motion.burstWaiting = none →
            ∃ t, exec (.burstEnd bytes) s = .next t ∧ (let call : Option BurstCall := (s.motion.burstPending.map BurstCall.assertion).or (if s.pins.mint = true then some .level else none)
         (t.motion.result = {
                outcome := .aborted,
                stage := (match s.motion.check.phase with | .baseline => 1 | .onSettle | .on => 2 | .offSettle | .ret => 3),
                baseline := s.motion.check.baseline, delta := s.motion.check.delta } ∧ Posted s t .checkDone) ∧
            t.motion = (if s.motion.badCount = 2 then { s.motion with
                port := .lost, burstStatus := .bad, badCount := 0, burstPending := none, burstWaiting := none, stall := none,
                retry := some s.timeBase, result := t.motion.result, bus := s.busLeft }
              else { s.motion with
                port := .streaming, burstStatus := .bad, badCount := s.motion.badCount + 1, burstPending := none,
                burstWaiting := (if s.busLeft = .idle then none else call),
                result := t.motion.result, bus := s.busLeft.withBurst s.store.settings.motion.scalars call s.timeBase }) ∧
            t.drop = (if s.motion.badCount = 2 then s.drop else { s.drop with state := .calm, lowRun := 0 }) ∧
            (s.motion.badCount = 2 → Posted s t .motionLost) ∧ t = { s.acted t with motion := t.motion, drop := t.drop })) ∧
      (s.supply = .run → s.motion.bus = .burst w address time → bytes.length = 6 * w → s.motion.port = .streaming → (bytes.all (· == 0) || bytes.all (· == 255)) = false → s.motion.burstWaiting = none →
            ∃ t, exec (.burstEnd bytes) s = .next t ∧ (let c : MotionScalars := s.store.settings.motion.scalars
         let samples : List Sample := (List.range w).map fun i => {
           v := ⟨(s16 bytes (6 * i) * c.scale).tdiv 256, (s16 bytes (6 * i + 2) * c.scale).tdiv 256,
           (s16 bytes (6 * i + 4) * c.scale).tdiv 256⟩,
           time := time - BitVec.ofNat 32 ((w - 1 - i) * 1000 / c.rate.hz) }
         let u : State := samples.foldl handleSample { s with motion := { s.motion with
           burstStatus := .complete, badCount := 0, nextIndex := s.motion.nextIndex + BitVec.ofNat 32 w, bus := .idle } }
         t = finish { u with motion := { u.motion with
              burstPending := none,
              bus := (match s.motion.burstPending with
                | some m => .burst s.store.settings.motion.scalars.w (s.store.settings.motion.scalars.address ||| 0x80) m
                | none =>
                  if s.pins.mint = true then
                    .burst s.store.settings.motion.scalars.w (s.store.settings.motion.scalars.address ||| 0x80) s.timeBase
                  else .idle) } })) ∧
      (s.supply = .run → s.motion.bus = .burst w address time → bytes.length = 6 * w → s.motion.port = .checking → (bytes.all (· == 0) || bytes.all (· == 255)) = false → s.motion.burstWaiting = none → s.motion.check.phase = .baseline ∨ s.motion.check.phase = .on ∨ s.motion.check.phase = .ret → s.motion.check.count + w < 16 →
            ∃ t, exec (.burstEnd bytes) s = .next t ∧ (let c : MotionScalars := s.store.settings.motion.scalars
         let samples : List Sample := (List.range w).map fun i => {
           v := ⟨(s16 bytes (6 * i) * c.scale).tdiv 256, (s16 bytes (6 * i + 2) * c.scale).tdiv 256,
           (s16 bytes (6 * i + 4) * c.scale).tdiv 256⟩,
           time := time - BitVec.ofNat 32 ((w - 1 - i) * 1000 / c.rate.hz) }
         t = finish { s with motion := { s.motion with
              burstStatus := .complete, badCount := 0, nextIndex := s.motion.nextIndex + BitVec.ofNat 32 w, burstPending := none,
              check := { s.motion.check with
                count := s.motion.check.count + w,
                sum := ⟨s.motion.check.sum.x + (samples.map (·.v.x)).sum, s.motion.check.sum.y + (samples.map (·.v.y)).sum,
                  s.motion.check.sum.z + (samples.map (·.v.z)).sum⟩ },
              bus := (match s.motion.burstPending with
                | some m => .burst s.store.settings.motion.scalars.w (s.store.settings.motion.scalars.address ||| 0x80) m
                | none =>
                  if s.pins.mint = true then
                    .burst s.store.settings.motion.scalars.w (s.store.settings.motion.scalars.address ||| 0x80) s.timeBase
                  else .idle) } })) ∧
      (s.supply = .run → s.motion.bus = .burst w address time → bytes.length = 6 * w → s.motion.port = .checking → (bytes.all (· == 0) || bytes.all (· == 255)) = false → s.motion.burstWaiting = none → s.motion.check.phase = .baseline ∨ s.motion.check.phase = .on → s.motion.check.count < 16 → 16 ≤ s.motion.check.count + w →
            ∃ t, exec (.burstEnd bytes) s = .next t ∧ (let c : MotionScalars := s.store.settings.motion.scalars
         let samples : List Sample := (List.range w).map fun i => {
           v := ⟨(s16 bytes (6 * i) * c.scale).tdiv 256, (s16 bytes (6 * i + 2) * c.scale).tdiv 256,
           (s16 bytes (6 * i + 4) * c.scale).tdiv 256⟩,
           time := time - BitVec.ofNat 32 ((w - 1 - i) * 1000 / c.rate.hz) }
         let k : CheckSettings := s.store.settings.motion.check
         let used : List Sample := samples.take (16 - s.motion.check.count)
         let mean : Vec3 := ⟨(s.motion.check.sum.x + (used.map (·.v.x)).sum).tdiv 16,
           (s.motion.check.sum.y + (used.map (·.v.y)).sum).tdiv 16, (s.motion.check.sum.z + (used.map (·.v.z)).sum).tdiv 16⟩
         let base : Vec3 := s.motion.check.baseline
         let first : Bool := decide (s.motion.check.phase = .baseline)
         let writes : List ListWrite := (if first = true then k.onList else k.offList)
         t = finish { s with motion := { s.motion with
              burstStatus := .complete, badCount := 0, nextIndex := s.motion.nextIndex + BitVec.ofNat 32 w, burstPending := none,
              check := { s.motion.check with
                phase := (if first = true then .onSettle else .offSettle),
                count := 0,
                sum := ⟨0, 0, 0⟩,
                baseline := (if first = true then mean else base),
                delta := (if first = true then s.motion.check.delta
                  else ⟨mean.x - base.x, mean.y - base.y, mean.z - base.z⟩) },
              burstWaiting := (if writes = [] then none else match s.motion.burstPending with
                | some m => some (.assertion m)
                | none => if s.pins.mint = true then some .level else none),
              bus := (if writes = [] then (match s.motion.burstPending with
                | some m => .burst s.store.settings.motion.scalars.w (s.store.settings.motion.scalars.address ||| 0x80) m
                | none =>
                  if s.pins.mint = true then
                    .burst s.store.settings.motion.scalars.w (s.store.settings.motion.scalars.address ||| 0x80) s.timeBase
                  else .idle)
                else .listWrite (if first = true then .checkOn else .checkOff) writes) } })) ∧
      (s.supply = .run → s.motion.bus = .burst w address time → bytes.length = 6 * w → s.motion.port = .checking → (bytes.all (· == 0) || bytes.all (· == 255)) = false → s.motion.burstWaiting = none → s.motion.check.phase = .onSettle ∨ s.motion.check.phase = .offSettle → s.motion.check.count < 8 → w ≤ 16 →
            ∃ t, exec (.burstEnd bytes) s = .next t ∧ (let c : MotionScalars := s.store.settings.motion.scalars
         let samples : List Sample := (List.range w).map fun i => {
           v := ⟨(s16 bytes (6 * i) * c.scale).tdiv 256, (s16 bytes (6 * i + 2) * c.scale).tdiv 256,
           (s16 bytes (6 * i + 4) * c.scale).tdiv 256⟩,
           time := time - BitVec.ofNat 32 ((w - 1 - i) * 1000 / c.rate.hz) }
         let rest : List Sample := samples.drop (8 - s.motion.check.count)
         t = finish { s with motion := { s.motion with
              burstStatus := .complete, badCount := 0, nextIndex := s.motion.nextIndex + BitVec.ofNat 32 w, burstPending := none,
              check := (if s.motion.check.count + w < 8 then { s.motion.check with count := s.motion.check.count + w }
                else { s.motion.check with
                  phase := (if s.motion.check.phase = .onSettle then .on else .ret),
                  count := s.motion.check.count + w - 8,
                  sum := ⟨s.motion.check.sum.x + (rest.map (·.v.x)).sum, s.motion.check.sum.y + (rest.map (·.v.y)).sum,
                    s.motion.check.sum.z + (rest.map (·.v.z)).sum⟩ }),
              bus := (match s.motion.burstPending with
                | some m => .burst s.store.settings.motion.scalars.w (s.store.settings.motion.scalars.address ||| 0x80) m
                | none =>
                  if s.pins.mint = true then
                    .burst s.store.settings.motion.scalars.w (s.store.settings.motion.scalars.address ||| 0x80) s.timeBase
                  else .idle) } })) ∧
      (s.supply = .run → s.motion.bus = .burst w address time → bytes.length = 6 * w → s.motion.port = .checking → (bytes.all (· == 0) || bytes.all (· == 255)) = false → s.motion.check.phase = .ret → s.motion.check.count < 16 → 16 ≤ s.motion.check.count + w → s.drop.state = .suspended →
            ∃ t, exec (.burstEnd bytes) s = .next t ∧ (let c : MotionScalars := s.store.settings.motion.scalars
         let samples : List Sample := (List.range w).map fun i => {
           v := ⟨(s16 bytes (6 * i) * c.scale).tdiv 256, (s16 bytes (6 * i + 2) * c.scale).tdiv 256,
           (s16 bytes (6 * i + 4) * c.scale).tdiv 256⟩,
           time := time - BitVec.ofNat 32 ((w - 1 - i) * 1000 / c.rate.hz) }
         let k : CheckSettings := s.store.settings.motion.check
         let used : List Sample := samples.take (16 - s.motion.check.count)
         let mean : Vec3 := ⟨(s.motion.check.sum.x + (used.map (·.v.x)).sum).tdiv 16,
           (s.motion.check.sum.y + (used.map (·.v.y)).sum).tdiv 16, (s.motion.check.sum.z + (used.map (·.v.z)).sum).tdiv 16⟩
         let delta : Vec3 := s.motion.check.delta
         let base : Vec3 := s.motion.check.baseline
         let two : Bool := [delta.x, delta.y, delta.z].all fun d => decide ((k.deltaMin : Int) ≤ |d| ∧ |d| ≤ k.deltaMax)
         let three : Bool := [mean.x - base.x, mean.y - base.y, mean.z - base.z].all fun d => decide (|d| ≤ (k.tolerance : Int))
         let call : Option BurstCall := (s.motion.burstPending.map BurstCall.assertion).or (if s.pins.mint = true then some .level else none)
         t = { s.acted t with motion := t.motion, drop := { s.drop with state := .calm, lowRun := 0 } } ∧ Posted s t .checkDone ∧
            t.motion = { s.motion with
              port := .streaming, burstStatus := .complete, badCount := 0,
              nextIndex := s.motion.nextIndex + BitVec.ofNat 32 w, burstPending := none,
              burstWaiting := (if call = none then s.motion.burstWaiting else none),
              check := t.motion.check,
              result := {
                outcome := (if two = true ∧ three = true then .pass else .fail),
                stage := (if two = false then 2 else if three = false then 3 else 0), baseline := base, delta := delta },
              bus := Bus.withBurst .idle c call s.timeBase })) ∧
      (s.supply = .run → (s.motion.port.watchesMint = false ∨ bytes.length ≠ 6 * w) → s.motion.bus = .burst w address time →
            exec (.burstEnd bytes) s = .next (finish s)) ∧
      (s.supply = .run → s.motion.bus = .listWrite list (x :: left) → left ≠ [] →
            ∃ t, exec (.checkListWriteEnd) s = .next t ∧ (t = finish { s with motion := { s.motion with bus := .listWrite list left } } ∧
            t.motion.bus.sent = (left.take 1).flatMap fun y => [y.address &&& 0x7F, y.value])) ∧
      (s.supply = .run → s.motion.bus = .listWrite list [x] → s.motion.port.watchesMint = true →
            exec (.checkListWriteEnd) s = .next (finish { s with motion := { s.motion with
              burstWaiting := none,
              bus := (match s.motion.burstWaiting with
                | some (.assertion m) => .burst s.store.settings.motion.scalars.w (s.store.settings.motion.scalars.address ||| 0x80) m
                | some .level =>
                  .burst s.store.settings.motion.scalars.w (s.store.settings.motion.scalars.address ||| 0x80) s.timeBase
                | none => .idle) } })) ∧
      (s.supply = .run → s.motion.bus = .listWrite list [x] → (s.motion.port = .lost ∨ s.motion.port = .off) →
            exec (.checkListWriteEnd) s = .next (finish { s with motion := { s.motion with bus := .idle } })) ∧
      (s.supply = .run → s.motion.bus = .listWrite list [x] → s.motion.port = .setup →
            exec (.checkListWriteEnd) s = .next (finish { s with motion := { s.motion with
              bus := Bus.withEntry .idle s.store.settings.motion.setupList[s.motion.setup.entry]? } }))

/-- In CALM a high sample begins an IMPACT_ONLY record, a confirmed low run a fall, both raising the protections; else only the low run moves (section 9.1, section 9.2, section 9.3, section 9.5, section 9.7). Where the spec leaves a point open it states the model's choice: log 21. -/
def Obligations.CalmSamples : Prop :=
  ∀ (s : State) (x : Sample),
    MotionFits s.store.settings.motion →
    DropWf s →
    let c : MotionScalars := s.store.settings.motion.scalars
    let m2 : Nat := x.v.x.natAbs ^ 2 + x.v.y.natAbs ^ 2 + x.v.z.natAbs ^ 2
    let axis : Axis := (if x.v.y.natAbs ≤ x.v.x.natAbs ∧ x.v.z.natAbs ≤ x.v.x.natAbs then .x
      else if x.v.z.natAbs ≤ x.v.y.natAbs then .y else .z)
    let count (ms : Nat) : Nat := (ms * c.rate.hz + 999) / 1000
    let start : Moment := (if s.drop.lowRun = 0 then x.time else s.drop.runStart)
    let t : State := handleSample s x
    (s.drop.state = .calm → c.timp ^ 2 < m2 →
       t = { s with
              drop := { s.drop with
                state := .impact, quietCount := 0, park := true, contactGuard := true,
                record := some {
                  kind := some .impactOnly, time := x.time, bounce := false, guardUsed := false,
                  lockLate := !(t.locks.a.state == .locked && t.locks.b.state == .locked),
                  long := false, condition := s.power.condition,
                  feeding := ⟨s.power.src.dc.state.closed, s.power.src.a.state.closed, s.power.src.b.state.closed⟩,
                  fallLength := 0, peak := some ⟨m2, axis, 1⟩, follows := none } },
              locks := t.locks, link := { s.link with notices := t.link.notices } } ∧
            (∀ y ∈ allBays, (t.locks.get y).reasons = { (s.locks.get y).reasons with drop := true } ∧ (t.locks.get y).drive = true) ∧ t.holds .dropImpact = true) ∧
    (s.drop.state = .calm → m2 < c.tff ^ 2 → count c.fallConfirm ≤ s.drop.lowRun + 1 →
       t = { s with
              drop := { s.drop with
                state := .falling, lowRun := s.drop.lowRun + 1, fallCount := s.drop.lowRun + 1, returnCount := 0,
                runStart := start, park := true, contactGuard := true,
                record := some {
                  kind := none, time := start, bounce := false, guardUsed := false,
                  lockLate := false,
                  long := false, condition := s.power.condition,
                  feeding := ⟨s.power.src.dc.state.closed, s.power.src.a.state.closed, s.power.src.b.state.closed⟩,
                  fallLength := 0, peak := none, follows := none } },
              locks := t.locks, link := { s.link with notices := t.link.notices } } ∧
            (∀ y ∈ allBays, (t.locks.get y).reasons = { (s.locks.get y).reasons with drop := true } ∧ (t.locks.get y).drive = true) ∧ t.holds .dropFalling = true) ∧
    (s.drop.state = .calm → m2 < c.tff ^ 2 → s.drop.lowRun + 1 < count c.fallConfirm →
       t = { s with drop := { s.drop with lowRun := s.drop.lowRun + 1, runStart := start } }) ∧
    (s.drop.state = .calm → c.tff ^ 2 ≤ m2 → m2 ≤ c.timp ^ 2 →
       t = { s with drop := { s.drop with lowRun := 0 } }) ∧
    (s.drop.state = .suspended →
       t = handleSample { s with drop := { s.drop with state := .calm, lowRun := 0 } } x)

/-- Samples in FALLING, IMPACT and RECOVER: the ends of a fall, the peak, the quiet and guard counts, new legs and the end of the drop (section 3.3, section 3.4, section 4.3, section 4.4, section 4.5, section 9.3, section 9.4, section 9.5, section 9.7). Where the spec leaves a point open it states the model's choice: log 39. -/
def Obligations.DropSamples : Prop :=
  ∀ (s : State) (x : Sample) (r : OpenRecord),
    MotionFits s.store.settings.motion →
    s.drop.record = some r →
    let c : MotionScalars := s.store.settings.motion.scalars
    let m2 : Nat := x.v.x.natAbs ^ 2 + x.v.y.natAbs ^ 2 + x.v.z.natAbs ^ 2
    let axis : Axis := (if x.v.y.natAbs ≤ x.v.x.natAbs ∧ x.v.z.natAbs ≤ x.v.x.natAbs then .x
      else if x.v.z.natAbs ≤ x.v.y.natAbs then .y else .z)
    let count (ms : Nat) : Nat := (ms * c.rate.hz + 999) / 1000
    let start : Moment := (if s.drop.lowRun = 0 then x.time else s.drop.runStart)
    let t : State := handleSample s x
    (s.drop.state = .falling → c.timp ^ 2 < m2 →
       t = { s with
              drop := { s.drop with
                state := .impact, quietCount := 0,
                record := some { r with
                  kind := some .fallImpact, fallLength := s.drop.fallCount, peak := some ⟨m2, axis, 1⟩,
                  lockLate := r.lockLate || !(s.locks.a.state == .locked && s.locks.b.state == .locked) } },
              link := { s.link with notices := t.link.notices } } ∧
            t.holds .dropImpact = true) ∧
    (s.drop.state = .falling → m2 ≤ c.timp ^ 2 →
       let fall : Nat := s.drop.fallCount + 1
       let back : Nat := (if m2 < c.tff ^ 2 then 0 else s.drop.returnCount + 1)
       t = (if count c.returnTime ≤ back then { s with drop := { s.drop with
                state := .recover, fallCount := fall, returnCount := back, guardCount := 0, lowRun := 0,
                record := some { r with kind := some .fallNoImpact, fallLength := fall - back } } }
              else if count c.maxFall ≤ fall then { s with drop := { s.drop with
                state := .recover, fallCount := fall, returnCount := back, guardCount := 0, lowRun := 0,
                record := some { r with kind := some .fallNoImpact, fallLength := fall, long := true } } }
              else { s with drop := { s.drop with fallCount := fall, returnCount := back } })) ∧
    (s.drop.state = .impact → c.timp ^ 2 < m2 →
       t = { s with drop := { s.drop with
                quietCount := 0,
                record := some { r with peak := r.peak.map fun k =>
                  if k.m2 < m2 then ⟨m2, axis, k.k + 1⟩ else { k with k := k.k + 1 } } } }) ∧
    (s.drop.state = .impact → m2 ≤ c.timp ^ 2 →
       t = { s with drop :=
                (if count c.impactQuiet ≤ s.drop.quietCount + 1
                then { s.drop with
                  state := .recover, quietCount := s.drop.quietCount + 1, guardCount := 0, lowRun := 0 }
                else { s.drop with quietCount := s.drop.quietCount + 1 }) }) ∧
    (s.drop.state = .recover → c.timp ^ 2 < m2 →
       t = { s with
              store := s.store.write (r.complete false s.drop.fallCount c.rate),
              drop := { s.drop with
                state := .impact, quietCount := 0,
                record := some {
                  kind := some .impactOnly, time := x.time, bounce := true, guardUsed := false,
                  lockLate := !(s.locks.a.state == .locked && s.locks.b.state == .locked),
                  long := false, condition := s.power.condition,
                  feeding := ⟨s.power.src.dc.state.closed, s.power.src.a.state.closed, s.power.src.b.state.closed⟩,
                  fallLength := 0, peak := some ⟨m2, axis, 1⟩, follows := some (if s.store.nextSeq = 4294967295 then 1 else s.store.nextSeq) } },
              link := { s.link with notices := t.link.notices } } ∧
            t.holds .dropImpact = true ∧ t.holds .dropRecord = true) ∧
    (s.drop.state = .recover → m2 < c.tff ^ 2 → count c.fallConfirm ≤ s.drop.lowRun + 1 →
       t = { s with
              store := s.store.write (r.complete false s.drop.fallCount c.rate),
              drop := { s.drop with
                state := .falling, guardCount := s.drop.guardCount + 1, lowRun := s.drop.lowRun + 1,
                fallCount := s.drop.lowRun + 1, returnCount := 0, runStart := start,
                record := some {
                  kind := none, time := start, bounce := true, guardUsed := false,
                  lockLate := false,
                  long := false, condition := s.power.condition,
                  feeding := ⟨s.power.src.dc.state.closed, s.power.src.a.state.closed, s.power.src.b.state.closed⟩,
                  fallLength := 0, peak := none, follows := some (if s.store.nextSeq = 4294967295 then 1 else s.store.nextSeq) } },
              link := { s.link with notices := t.link.notices } } ∧
            t.holds .dropFalling = true ∧ t.holds .dropRecord = true) ∧
    (s.drop.state = .recover → m2 ≤ c.timp ^ 2 → ((m2 < c.tff ^ 2 → s.drop.lowRun + 1 < count c.fallConfirm)) → s.drop.guardCount + 1 < count c.guardTime →
       t = { s with drop := { s.drop with
                guardCount := s.drop.guardCount + 1,
                lowRun := (if m2 < c.tff ^ 2 then s.drop.lowRun + 1 else 0),
                runStart := (if m2 < c.tff ^ 2 then start else s.drop.runStart) } }) ∧
    (s.drop.state = .recover → m2 ≤ c.timp ^ 2 → ((m2 < c.tff ^ 2 → s.drop.lowRun + 1 < count c.fallConfirm)) → count c.guardTime ≤ s.drop.guardCount + 1 →
       t = { s with
              store := s.store.write (r.complete false s.drop.fallCount c.rate),
              drop := { s.drop with
                state := .calm, guardCount := s.drop.guardCount + 1, lowRun := 0, park := false, contactGuard := false,
                runStart := (if m2 < c.tff ^ 2 then start else s.drop.runStart),
                record := none },
              power := t.power, locks := t.locks, backlight := t.backlight,
              link := { s.link with notices := t.link.notices } } ∧
            (∀ y ∈ allBays, (t.locks.get y).reasons.drop = false) ∧ t.holds .dropRecord = true ∧ t.holds .dropCalm = true) ∧
    (s.drop.state = .recover → m2 ≤ c.timp ^ 2 → ((m2 < c.tff ^ 2 → s.drop.lowRun + 1 < count c.fallConfirm)) → count c.guardTime ≤ s.drop.guardCount + 1 →
       ∀ y ∈ allBays,
              (presenceOver (baySource y) s = true → (s.src (baySource y)).presence = true →
                t.src (baySource y) = (s.src (baySource y)).lost ∧ t.holds (.sourceDetach (baySource y)) = true) ∧
              (presenceOver (baySource y) s = false → windowOver (baySource y) s = true →
                t.src (baySource y) = (s.src (baySource y)).faulted (windowFaultKind (s.src (baySource y)).violation) ∧
                t.holds (.sourceFault (baySource y)) = true ∧ t.holds (.sourceState (baySource y)) = true)) ∧
    (s.drop.state = .recover → m2 ≤ c.timp ^ 2 → ((m2 < c.tff ^ 2 → s.drop.lowRun + 1 < count c.fallConfirm)) → count c.guardTime ≤ s.drop.guardCount + 1 → GuardFallsQuiet s → (s.power.preferred s.store.settings.power.policy).isEmpty = true ∨ (s.power.preferred s.store.settings.power.policy) = s.power.feeding →
       t.power = { s.power with deferred := false, condition := t.power.condition }) ∧
    (s.drop.state = .recover → m2 ≤ c.timp ^ 2 → ((m2 < c.tff ^ 2 → s.drop.lowRun + 1 < count c.fallConfirm)) → count c.guardTime ≤ s.drop.guardCount + 1 → GuardFallsQuiet s → isJoin s.power s.store.settings.power.policy (s.power.preferred s.store.settings.power.policy) s.power.feeding = true →
       let pref : SourceSet := s.power.preferred s.store.settings.power.policy
       ∀ z ∈ allSources, pref.minus s.power.feeding = oneSource z → s.pins.good.get z = false →
              faultCondition (s.srcSettings z) s.pins z = none → (s.src z).state = .standby →
              t.power = { s.power with
                src := s.power.src.set z ((s.src z).closing s.timeBase), joining := sourceBay z, deferred := false,
                condition := t.power.condition } ∧
              (∀ y ∈ allBays, (t.locks.get y).reasons.transfer = false)) ∧
    (s.drop.state = .recover → m2 ≤ c.timp ^ 2 → ((m2 < c.tff ^ 2 → s.drop.lowRun + 1 < count c.fallConfirm)) → count c.guardTime ≤ s.drop.guardCount + 1 → GuardFallsQuiet s → (s.power.preferred s.store.settings.power.policy).within s.power.feeding = false → isJoin s.power s.store.settings.power.policy (s.power.preferred s.store.settings.power.policy) s.power.feeding = false →
       let pref : SourceSet := s.power.preferred s.store.settings.power.policy
       let feed : SourceSet := s.power.feeding
       ∀ z ∈ allSources, firstChoice s.power s.store.settings.power.policy (pref.minus feed) = some z →
              s.pins.good.get z = false → faultCondition (s.srcSettings z) s.pins z = none → (s.src z).state = .standby →
              t.power = { s.power with
                src := s.power.src.set z ((s.src z).closing s.timeBase),
                transfer := some {
                  kind := (if feed.isEmpty = true then TransferKind.breakLoad
                    else if ∃ k ∈ allSources, (s.src k).state = .releasingHeld then .release else .planned),
                  outgoing := feed.minus pref, incoming := z, step := .closingIncoming, startMs := s.timeBase,
                  tried := oneSource z },
                deferred := false, condition := .transfer } ∧
              (∀ y ∈ allBays, (t.locks.get y).reasons.transfer = decide (baySource y = z)))

/-- The completed record has the groups of its kind by exact integer arithmetic, and a write numbers it and drops the oldest of 32, or wraps (section 9.4, section 10.1, section 10.2). -/
def Obligations.RecordWritten : Prop :=
  ∀ (st : Store) (r : OpenRecord) (truncated : Bool) (fallCount : Nat) (rate : Rate) (p : Peak) (root : Nat),
    (r.peak = some p ∨ r.kind = none ∨ r.kind = some .fallNoImpact) →
    root * root ≤ p.m2 →
    p.m2 < (root + 1) * (root + 1) →
    let kind : RecordKind := r.kind.getD .fallNoImpact
    let n : Nat := (if r.kind = none then fallCount else r.fallLength)
    let base : List ShockRecord := (if st.nextSeq = 4294967295 then [] else st.log)
    let seq : Nat := (if st.nextSeq = 4294967295 then 1 else st.nextSeq)
    st.write (r.complete truncated fallCount rate) = Store.withWord { st with
      log := (if 32 ≤ base.length then base.tail else base) ++ [{
        seq := seq, time := r.time, kind := kind, truncated := truncated, bounce := r.bounce, guardUsed := r.guardUsed,
        lockLate := r.lockLate, long := r.long, condition := r.condition, feeding := r.feeding,
        fall := (if kind = .impactOnly then none
          else some ⟨n * 1000 / rate.hz, min (9807 * n ^ 2 / (2 * rate.hz ^ 2)) 65535⟩),
        impact := (if kind = .fallNoImpact then none else some ⟨root, p.axis, p.k * 1000 / rate.hz⟩),
        follows := (if r.bounce = true then r.follows else none) }],
      nextSeq := seq + 1 }

/-- READ_LOG returns oldest_seq, next_seq and the records from from_seq on that fit whole, up to max_count, and changes nothing (section 1.8, section 10.3). -/
def Obligations.ReadLogReturns : Prop :=
  ∀ (s : State) (tag : Byte) (p : List Byte),
    Ready 0x50 tag p s →
    p.length = 5 →
    ∃ t, exec (.readLog tag p) s = .next t ∧
      (let encode (q : ShockRecord) : List Byte :=
         le8 (13 + (if q.fall.isSome then 4 else 0) + (if q.impact.isSome then 5 else 0) + (if q.follows.isSome then 4 else 0)) ++
         le32 q.seq ++ le32 q.time.toNat ++ le8 (match q.kind with | .fallImpact => 1 | .fallNoImpact => 2 | .impactOnly => 3) ++
         [flagByte [q.truncated, q.bounce, q.guardUsed, q.lockLate, q.long]] ++
         le8 (match q.condition with | .full => 0 | .single => 1 | .low => 2 | .transfer => 3 | .noSupply => 4) ++
         [flagByte [q.feeding.dc, q.feeding.a, q.feeding.b]] ++
         (match q.fall with | some f => le16 f.fallMs ++ le16 f.heightMm | none => []) ++
         (match q.impact with
         | some i => le16 (min i.peakMg 65535) ++ le8 (match i.axis with | .x => 0 | .y => 1 | .z => 2) ++ le16 (min i.impactMs 65535)
         | none => []) ++
         (match q.follows with | some k => le32 k | none => [])
       let rest : List ShockRecord := s.store.log.filter fun q => decide (u32 p 0 ≤ q.seq)
       let most : Nat := max 1 (min (u8 p 4) 8)
       let bytes (n : Nat) : List Byte := (rest.take n).flatMap encode
       let oldest : Nat := (match s.store.log with | q :: _ => q.seq | [] => s.store.nextSeq)
       ∃ n ∈ List.range (most + 1), (bytes n).length ≤ 51 ∧
            (n = most ∨ rest.length ≤ n ∨ 51 < (bytes (n + 1)).length) ∧
            t = s.replied 0x50 tag p ((if most = u8 p 4 then 0 else 1) :: le32 oldest ++ le32 s.store.nextSeq ++ bytes n))

/-- CLEAR_LOG removes the records at or below up_to, a run from the front, keeps next_seq, and reports both seqs as they then stand (R184). -/
def Obligations.ClearLogRemoves : Prop :=
  ∀ (s : State) (tag : Byte) (p : List Byte),
    Ready 0x51 tag p s →
    p.length = 4 →
    LogWf s.store →
    ∃ t, exec (.clearLog tag p) s = .next t ∧
      (let rest : List ShockRecord := s.store.log.filter fun q => decide (u32 p 0 < q.seq)
       t = { s.replied 0x51 tag p (0 :: le32 ((rest.map (·.seq)).headD s.store.nextSeq) ++ le32 s.store.nextSeq) with
            store := Store.withWord { s.store with log := rest } } ∧
          rest = s.store.log.drop (s.store.log.length - rest.length) ∧
          (u32 p 0 < (s.store.log.map (·.seq)).headD s.store.nextSeq → rest = s.store.log) ∧
          (s.store.nextSeq - 1 ≤ u32 p 0 → rest = []) ∧ LogWf t.store)

/-- Every step keeps the shock log at no more than 32 records, oldest first, their seqs consecutive and ending at next_seq − 1 (section 10.1, section 10.2, section 10.4, section 10.5). Where the spec leaves a point open it states the model's choice: logs 2, 3 and 4. -/
def Obligations.LogInvariant : Prop :=
  ∀ (s : State) (t : State),
    LogWf s.store →
    step s = .next t →
    LogWf t.store

/-- Every step keeps every setting and every scanner result in its range, and every system slot at its fixed values (section 2.2, section 3.1, section 4.1, section 6.1, section 7.1, section 8.2, section 8.5). Where the spec leaves a point open it states the model's choice: logs 2, 3 and 4. -/
def Obligations.RangesInvariant : Prop :=
  ∀ (s : State) (t : State),
    SettingsWf s.store.settings ∧ ScannerWf s.scanner →
    step s = .next t →
    SettingsWf t.store.settings ∧ ScannerWf t.scanner

/-- Every step keeps the request queue, reply list, notice queue and LTX consistent, and WAKE_N at its level (section 1.2, section 1.4, section 1.5, section 1.6). Where the spec leaves a point open it states the model's choice: logs 3 and 4. -/
def Obligations.LinkInvariant : Prop :=
  ∀ (s : State) (t : State),
    LinkWf s ∧ WakeWf s →
    step s = .next t →
    LinkWf t ∧ WakeWf t

/-- Every step keeps sources, switches, power condition and lock reasons consistent, and each lock drive on exactly with reasons (section 3.1, section 3.2, section 4.6, section 4.7, section 5.1, section 5.3). Where the spec leaves a point open it states the model's choice: logs 3, 4 and 17. -/
def Obligations.PowerInvariant : Prop :=
  ∀ (s : State) (t : State),
    PowerWf s ∧ LockWf s.locks.a ∧ LockWf s.locks.b →
    step s = .next t →
    PowerWf t ∧ LockWf t.locks.a ∧ LockWf t.locks.b

/-- Every step keeps the level at or below both caps, 0 with the lid closed or mode OFF, and the duty by the level (section 7.2, section 7.3, section 7.4, section 7.5). Where the spec leaves a point open it states the model's choice: logs 3, 13, 23 and 46. -/
def Obligations.BacklightInvariant : Prop :=
  ∀ (s : State) (t : State),
    BacklightWf s →
    step s = .next t →
    BacklightWf t

/-- Every step keeps the motion port and the drop detector consistent: timers, bus, BAD count, protections and open record (section 8.3, section 8.4, section 9.2, section 9.5). Where the spec leaves a point open it states the model's choice: logs 3 and 4. -/
def Obligations.MotionInvariant : Prop :=
  ∀ (s : State) (t : State),
    MotionWf s ∧ DropWf s →
    step s = .next t →
    MotionWf t ∧ DropWf t

/-- Right after reset every invariant that the steps keep holds (section 1.6, section 2.8, section 3.1, section 5.6, section 6.7, section 7.7, section 8.7, section 9.8, section 10.5). Where the spec leaves a point open it states the model's choice: log 1. -/
def Obligations.InvariantsAtReset : Prop :=
      LogWf State.reset.store ∧ SettingsWf State.reset.store.settings ∧ ScannerWf State.reset.scanner ∧
    LinkWf State.reset ∧ WakeWf State.reset ∧ PowerWf State.reset ∧ LockWf State.reset.locks.a ∧
    LockWf State.reset.locks.b ∧ BacklightWf State.reset ∧ MotionWf State.reset ∧ DropWf State.reset
end

