-- ==== Sys2Proof/Laws/State.lean ====
section
/-! SUPPORT. What each named update of the state leaves and what it sets: one lemma for each field. -/

namespace Sys2Proof.Machine

/-! ### setSupply -/

@[simp] theorem State.setSupply_supply (s : State) (v : Supply) : (s.setSupply v).supply = v := rfl
@[simp] theorem State.setSupply_coldMark (s : State) (v : Supply) : (s.setSupply v).coldMark = s.coldMark := rfl
@[simp] theorem State.setSupply_timeBase (s : State) (v : Supply) : (s.setSupply v).timeBase = s.timeBase := rfl
@[simp] theorem State.setSupply_store (s : State) (v : Supply) : (s.setSupply v).store = s.store := rfl
@[simp] theorem State.setSupply_startRec (s : State) (v : Supply) : (s.setSupply v).startRec = s.startRec := rfl
@[simp] theorem State.setSupply_pins (s : State) (v : Supply) : (s.setSupply v).pins = s.pins := rfl
@[simp] theorem State.setSupply_link (s : State) (v : Supply) : (s.setSupply v).link = s.link := rfl
@[simp] theorem State.setSupply_scanner (s : State) (v : Supply) : (s.setSupply v).scanner = s.scanner := rfl
@[simp] theorem State.setSupply_power (s : State) (v : Supply) : (s.setSupply v).power = s.power := rfl
@[simp] theorem State.setSupply_locks (s : State) (v : Supply) : (s.setSupply v).locks = s.locks := rfl
@[simp] theorem State.setSupply_ambient (s : State) (v : Supply) : (s.setSupply v).ambient = s.ambient := rfl
@[simp] theorem State.setSupply_backlight (s : State) (v : Supply) : (s.setSupply v).backlight = s.backlight := rfl
@[simp] theorem State.setSupply_motion (s : State) (v : Supply) : (s.setSupply v).motion = s.motion := rfl
@[simp] theorem State.setSupply_drop (s : State) (v : Supply) : (s.setSupply v).drop = s.drop := rfl
@[simp] theorem State.setSupply_freeCount (s : State) (v : Supply) : (s.setSupply v).freeCount = s.freeCount := rfl
@[simp] theorem State.setSupply_pending (s : State) (v : Supply) : (s.setSupply v).pending = s.pending := rfl
@[simp] theorem State.setSupply_settings (s : State) (v : Supply) : (s.setSupply v).settings = s.settings := rfl
@[simp] theorem State.setSupply_elapsed (s : State) (v : Supply) (m : Moment) : elapsed (s.setSupply v) m = elapsed s m := rfl

/-! ### setColdMark -/

@[simp] theorem State.setColdMark_supply (s : State) (v : Bool) : (s.setColdMark v).supply = s.supply := rfl
@[simp] theorem State.setColdMark_coldMark (s : State) (v : Bool) : (s.setColdMark v).coldMark = v := rfl
@[simp] theorem State.setColdMark_timeBase (s : State) (v : Bool) : (s.setColdMark v).timeBase = s.timeBase := rfl
@[simp] theorem State.setColdMark_store (s : State) (v : Bool) : (s.setColdMark v).store = s.store := rfl
@[simp] theorem State.setColdMark_startRec (s : State) (v : Bool) : (s.setColdMark v).startRec = s.startRec := rfl
@[simp] theorem State.setColdMark_pins (s : State) (v : Bool) : (s.setColdMark v).pins = s.pins := rfl
@[simp] theorem State.setColdMark_link (s : State) (v : Bool) : (s.setColdMark v).link = s.link := rfl
@[simp] theorem State.setColdMark_scanner (s : State) (v : Bool) : (s.setColdMark v).scanner = s.scanner := rfl
@[simp] theorem State.setColdMark_power (s : State) (v : Bool) : (s.setColdMark v).power = s.power := rfl
@[simp] theorem State.setColdMark_locks (s : State) (v : Bool) : (s.setColdMark v).locks = s.locks := rfl
@[simp] theorem State.setColdMark_ambient (s : State) (v : Bool) : (s.setColdMark v).ambient = s.ambient := rfl
@[simp] theorem State.setColdMark_backlight (s : State) (v : Bool) : (s.setColdMark v).backlight = s.backlight := rfl
@[simp] theorem State.setColdMark_motion (s : State) (v : Bool) : (s.setColdMark v).motion = s.motion := rfl
@[simp] theorem State.setColdMark_drop (s : State) (v : Bool) : (s.setColdMark v).drop = s.drop := rfl
@[simp] theorem State.setColdMark_freeCount (s : State) (v : Bool) : (s.setColdMark v).freeCount = s.freeCount := rfl
@[simp] theorem State.setColdMark_pending (s : State) (v : Bool) : (s.setColdMark v).pending = s.pending := rfl
@[simp] theorem State.setColdMark_settings (s : State) (v : Bool) : (s.setColdMark v).settings = s.settings := rfl
@[simp] theorem State.setColdMark_elapsed (s : State) (v : Bool) (m : Moment) : elapsed (s.setColdMark v) m = elapsed s m := rfl

/-! ### setTimeBase -/

@[simp] theorem State.setTimeBase_supply (s : State) (v : Moment) : (s.setTimeBase v).supply = s.supply := rfl
@[simp] theorem State.setTimeBase_coldMark (s : State) (v : Moment) : (s.setTimeBase v).coldMark = s.coldMark := rfl
@[simp] theorem State.setTimeBase_timeBase (s : State) (v : Moment) : (s.setTimeBase v).timeBase = v := rfl
@[simp] theorem State.setTimeBase_store (s : State) (v : Moment) : (s.setTimeBase v).store = s.store := rfl
@[simp] theorem State.setTimeBase_startRec (s : State) (v : Moment) : (s.setTimeBase v).startRec = s.startRec := rfl
@[simp] theorem State.setTimeBase_pins (s : State) (v : Moment) : (s.setTimeBase v).pins = s.pins := rfl
@[simp] theorem State.setTimeBase_link (s : State) (v : Moment) : (s.setTimeBase v).link = s.link := rfl
@[simp] theorem State.setTimeBase_scanner (s : State) (v : Moment) : (s.setTimeBase v).scanner = s.scanner := rfl
@[simp] theorem State.setTimeBase_power (s : State) (v : Moment) : (s.setTimeBase v).power = s.power := rfl
@[simp] theorem State.setTimeBase_locks (s : State) (v : Moment) : (s.setTimeBase v).locks = s.locks := rfl
@[simp] theorem State.setTimeBase_ambient (s : State) (v : Moment) : (s.setTimeBase v).ambient = s.ambient := rfl
@[simp] theorem State.setTimeBase_backlight (s : State) (v : Moment) : (s.setTimeBase v).backlight = s.backlight := rfl
@[simp] theorem State.setTimeBase_motion (s : State) (v : Moment) : (s.setTimeBase v).motion = s.motion := rfl
@[simp] theorem State.setTimeBase_drop (s : State) (v : Moment) : (s.setTimeBase v).drop = s.drop := rfl
@[simp] theorem State.setTimeBase_freeCount (s : State) (v : Moment) : (s.setTimeBase v).freeCount = s.freeCount := rfl
@[simp] theorem State.setTimeBase_pending (s : State) (v : Moment) : (s.setTimeBase v).pending = s.pending := rfl
@[simp] theorem State.setTimeBase_settings (s : State) (v : Moment) : (s.setTimeBase v).settings = s.settings := rfl
@[simp] theorem State.setTimeBase_elapsed (s : State) (v : Moment) (m : Moment) : elapsed (s.setTimeBase v) m = (v - m).toNat := rfl

/-! ### setStore -/

@[simp] theorem State.setStore_supply (s : State) (v : Store) : (s.setStore v).supply = s.supply := rfl
@[simp] theorem State.setStore_coldMark (s : State) (v : Store) : (s.setStore v).coldMark = s.coldMark := rfl
@[simp] theorem State.setStore_timeBase (s : State) (v : Store) : (s.setStore v).timeBase = s.timeBase := rfl
@[simp] theorem State.setStore_store (s : State) (v : Store) : (s.setStore v).store = v := rfl
@[simp] theorem State.setStore_startRec (s : State) (v : Store) : (s.setStore v).startRec = s.startRec := rfl
@[simp] theorem State.setStore_pins (s : State) (v : Store) : (s.setStore v).pins = s.pins := rfl
@[simp] theorem State.setStore_link (s : State) (v : Store) : (s.setStore v).link = s.link := rfl
@[simp] theorem State.setStore_scanner (s : State) (v : Store) : (s.setStore v).scanner = s.scanner := rfl
@[simp] theorem State.setStore_power (s : State) (v : Store) : (s.setStore v).power = s.power := rfl
@[simp] theorem State.setStore_locks (s : State) (v : Store) : (s.setStore v).locks = s.locks := rfl
@[simp] theorem State.setStore_ambient (s : State) (v : Store) : (s.setStore v).ambient = s.ambient := rfl
@[simp] theorem State.setStore_backlight (s : State) (v : Store) : (s.setStore v).backlight = s.backlight := rfl
@[simp] theorem State.setStore_motion (s : State) (v : Store) : (s.setStore v).motion = s.motion := rfl
@[simp] theorem State.setStore_drop (s : State) (v : Store) : (s.setStore v).drop = s.drop := rfl
@[simp] theorem State.setStore_freeCount (s : State) (v : Store) : (s.setStore v).freeCount = s.freeCount := rfl
@[simp] theorem State.setStore_pending (s : State) (v : Store) : (s.setStore v).pending = s.pending := rfl
@[simp] theorem State.setStore_settings (s : State) (v : Store) : (s.setStore v).settings = v.settings := rfl
@[simp] theorem State.setStore_elapsed (s : State) (v : Store) (m : Moment) : elapsed (s.setStore v) m = elapsed s m := rfl

/-! ### setStartRec -/

@[simp] theorem State.setStartRec_supply (s : State) (v : StartRecord) : (s.setStartRec v).supply = s.supply := rfl
@[simp] theorem State.setStartRec_coldMark (s : State) (v : StartRecord) : (s.setStartRec v).coldMark = s.coldMark := rfl
@[simp] theorem State.setStartRec_timeBase (s : State) (v : StartRecord) : (s.setStartRec v).timeBase = s.timeBase := rfl
@[simp] theorem State.setStartRec_store (s : State) (v : StartRecord) : (s.setStartRec v).store = s.store := rfl
@[simp] theorem State.setStartRec_startRec (s : State) (v : StartRecord) : (s.setStartRec v).startRec = v := rfl
@[simp] theorem State.setStartRec_pins (s : State) (v : StartRecord) : (s.setStartRec v).pins = s.pins := rfl
@[simp] theorem State.setStartRec_link (s : State) (v : StartRecord) : (s.setStartRec v).link = s.link := rfl
@[simp] theorem State.setStartRec_scanner (s : State) (v : StartRecord) : (s.setStartRec v).scanner = s.scanner := rfl
@[simp] theorem State.setStartRec_power (s : State) (v : StartRecord) : (s.setStartRec v).power = s.power := rfl
@[simp] theorem State.setStartRec_locks (s : State) (v : StartRecord) : (s.setStartRec v).locks = s.locks := rfl
@[simp] theorem State.setStartRec_ambient (s : State) (v : StartRecord) : (s.setStartRec v).ambient = s.ambient := rfl
@[simp] theorem State.setStartRec_backlight (s : State) (v : StartRecord) : (s.setStartRec v).backlight = s.backlight := rfl
@[simp] theorem State.setStartRec_motion (s : State) (v : StartRecord) : (s.setStartRec v).motion = s.motion := rfl
@[simp] theorem State.setStartRec_drop (s : State) (v : StartRecord) : (s.setStartRec v).drop = s.drop := rfl
@[simp] theorem State.setStartRec_freeCount (s : State) (v : StartRecord) : (s.setStartRec v).freeCount = s.freeCount := rfl
@[simp] theorem State.setStartRec_pending (s : State) (v : StartRecord) : (s.setStartRec v).pending = s.pending := rfl
@[simp] theorem State.setStartRec_settings (s : State) (v : StartRecord) : (s.setStartRec v).settings = s.settings := rfl
@[simp] theorem State.setStartRec_elapsed (s : State) (v : StartRecord) (m : Moment) : elapsed (s.setStartRec v) m = elapsed s m := rfl

/-! ### setPins -/

@[simp] theorem State.setPins_supply (s : State) (v : Pins) : (s.setPins v).supply = s.supply := rfl
@[simp] theorem State.setPins_coldMark (s : State) (v : Pins) : (s.setPins v).coldMark = s.coldMark := rfl
@[simp] theorem State.setPins_timeBase (s : State) (v : Pins) : (s.setPins v).timeBase = s.timeBase := rfl
@[simp] theorem State.setPins_store (s : State) (v : Pins) : (s.setPins v).store = s.store := rfl
@[simp] theorem State.setPins_startRec (s : State) (v : Pins) : (s.setPins v).startRec = s.startRec := rfl
@[simp] theorem State.setPins_pins (s : State) (v : Pins) : (s.setPins v).pins = v := rfl
@[simp] theorem State.setPins_link (s : State) (v : Pins) : (s.setPins v).link = s.link := rfl
@[simp] theorem State.setPins_scanner (s : State) (v : Pins) : (s.setPins v).scanner = s.scanner := rfl
@[simp] theorem State.setPins_power (s : State) (v : Pins) : (s.setPins v).power = s.power := rfl
@[simp] theorem State.setPins_locks (s : State) (v : Pins) : (s.setPins v).locks = s.locks := rfl
@[simp] theorem State.setPins_ambient (s : State) (v : Pins) : (s.setPins v).ambient = s.ambient := rfl
@[simp] theorem State.setPins_backlight (s : State) (v : Pins) : (s.setPins v).backlight = s.backlight := rfl
@[simp] theorem State.setPins_motion (s : State) (v : Pins) : (s.setPins v).motion = s.motion := rfl
@[simp] theorem State.setPins_drop (s : State) (v : Pins) : (s.setPins v).drop = s.drop := rfl
@[simp] theorem State.setPins_freeCount (s : State) (v : Pins) : (s.setPins v).freeCount = s.freeCount := rfl
@[simp] theorem State.setPins_pending (s : State) (v : Pins) : (s.setPins v).pending = s.pending := rfl
@[simp] theorem State.setPins_settings (s : State) (v : Pins) : (s.setPins v).settings = s.settings := rfl
@[simp] theorem State.setPins_elapsed (s : State) (v : Pins) (m : Moment) : elapsed (s.setPins v) m = elapsed s m := rfl

/-! ### setLink -/

@[simp] theorem State.setLink_supply (s : State) (v : Link) : (s.setLink v).supply = s.supply := rfl
@[simp] theorem State.setLink_coldMark (s : State) (v : Link) : (s.setLink v).coldMark = s.coldMark := rfl
@[simp] theorem State.setLink_timeBase (s : State) (v : Link) : (s.setLink v).timeBase = s.timeBase := rfl
@[simp] theorem State.setLink_store (s : State) (v : Link) : (s.setLink v).store = s.store := rfl
@[simp] theorem State.setLink_startRec (s : State) (v : Link) : (s.setLink v).startRec = s.startRec := rfl
@[simp] theorem State.setLink_pins (s : State) (v : Link) : (s.setLink v).pins = s.pins := rfl
@[simp] theorem State.setLink_link (s : State) (v : Link) : (s.setLink v).link = v := rfl
@[simp] theorem State.setLink_scanner (s : State) (v : Link) : (s.setLink v).scanner = s.scanner := rfl
@[simp] theorem State.setLink_power (s : State) (v : Link) : (s.setLink v).power = s.power := rfl
@[simp] theorem State.setLink_locks (s : State) (v : Link) : (s.setLink v).locks = s.locks := rfl
@[simp] theorem State.setLink_ambient (s : State) (v : Link) : (s.setLink v).ambient = s.ambient := rfl
@[simp] theorem State.setLink_backlight (s : State) (v : Link) : (s.setLink v).backlight = s.backlight := rfl
@[simp] theorem State.setLink_motion (s : State) (v : Link) : (s.setLink v).motion = s.motion := rfl
@[simp] theorem State.setLink_drop (s : State) (v : Link) : (s.setLink v).drop = s.drop := rfl
@[simp] theorem State.setLink_freeCount (s : State) (v : Link) : (s.setLink v).freeCount = s.freeCount := rfl
@[simp] theorem State.setLink_pending (s : State) (v : Link) : (s.setLink v).pending = s.pending := rfl
@[simp] theorem State.setLink_settings (s : State) (v : Link) : (s.setLink v).settings = s.settings := rfl
@[simp] theorem State.setLink_elapsed (s : State) (v : Link) (m : Moment) : elapsed (s.setLink v) m = elapsed s m := rfl

/-! ### setScanner -/

@[simp] theorem State.setScanner_supply (s : State) (v : Scanner) : (s.setScanner v).supply = s.supply := rfl
@[simp] theorem State.setScanner_coldMark (s : State) (v : Scanner) : (s.setScanner v).coldMark = s.coldMark := rfl
@[simp] theorem State.setScanner_timeBase (s : State) (v : Scanner) : (s.setScanner v).timeBase = s.timeBase := rfl
@[simp] theorem State.setScanner_store (s : State) (v : Scanner) : (s.setScanner v).store = s.store := rfl
@[simp] theorem State.setScanner_startRec (s : State) (v : Scanner) : (s.setScanner v).startRec = s.startRec := rfl
@[simp] theorem State.setScanner_pins (s : State) (v : Scanner) : (s.setScanner v).pins = s.pins := rfl
@[simp] theorem State.setScanner_link (s : State) (v : Scanner) : (s.setScanner v).link = s.link := rfl
@[simp] theorem State.setScanner_scanner (s : State) (v : Scanner) : (s.setScanner v).scanner = v := rfl
@[simp] theorem State.setScanner_power (s : State) (v : Scanner) : (s.setScanner v).power = s.power := rfl
@[simp] theorem State.setScanner_locks (s : State) (v : Scanner) : (s.setScanner v).locks = s.locks := rfl
@[simp] theorem State.setScanner_ambient (s : State) (v : Scanner) : (s.setScanner v).ambient = s.ambient := rfl
@[simp] theorem State.setScanner_backlight (s : State) (v : Scanner) : (s.setScanner v).backlight = s.backlight := rfl
@[simp] theorem State.setScanner_motion (s : State) (v : Scanner) : (s.setScanner v).motion = s.motion := rfl
@[simp] theorem State.setScanner_drop (s : State) (v : Scanner) : (s.setScanner v).drop = s.drop := rfl
@[simp] theorem State.setScanner_freeCount (s : State) (v : Scanner) : (s.setScanner v).freeCount = s.freeCount := rfl
@[simp] theorem State.setScanner_pending (s : State) (v : Scanner) : (s.setScanner v).pending = s.pending := rfl
@[simp] theorem State.setScanner_settings (s : State) (v : Scanner) : (s.setScanner v).settings = s.settings := rfl
@[simp] theorem State.setScanner_elapsed (s : State) (v : Scanner) (m : Moment) : elapsed (s.setScanner v) m = elapsed s m := rfl

/-! ### setPower -/

@[simp] theorem State.setPower_supply (s : State) (v : Power) : (s.setPower v).supply = s.supply := rfl
@[simp] theorem State.setPower_coldMark (s : State) (v : Power) : (s.setPower v).coldMark = s.coldMark := rfl
@[simp] theorem State.setPower_timeBase (s : State) (v : Power) : (s.setPower v).timeBase = s.timeBase := rfl
@[simp] theorem State.setPower_store (s : State) (v : Power) : (s.setPower v).store = s.store := rfl
@[simp] theorem State.setPower_startRec (s : State) (v : Power) : (s.setPower v).startRec = s.startRec := rfl
@[simp] theorem State.setPower_pins (s : State) (v : Power) : (s.setPower v).pins = s.pins := rfl
@[simp] theorem State.setPower_link (s : State) (v : Power) : (s.setPower v).link = s.link := rfl
@[simp] theorem State.setPower_scanner (s : State) (v : Power) : (s.setPower v).scanner = s.scanner := rfl
@[simp] theorem State.setPower_power (s : State) (v : Power) : (s.setPower v).power = v := rfl
@[simp] theorem State.setPower_locks (s : State) (v : Power) : (s.setPower v).locks = s.locks := rfl
@[simp] theorem State.setPower_ambient (s : State) (v : Power) : (s.setPower v).ambient = s.ambient := rfl
@[simp] theorem State.setPower_backlight (s : State) (v : Power) : (s.setPower v).backlight = s.backlight := rfl
@[simp] theorem State.setPower_motion (s : State) (v : Power) : (s.setPower v).motion = s.motion := rfl
@[simp] theorem State.setPower_drop (s : State) (v : Power) : (s.setPower v).drop = s.drop := rfl
@[simp] theorem State.setPower_freeCount (s : State) (v : Power) : (s.setPower v).freeCount = s.freeCount := rfl
@[simp] theorem State.setPower_pending (s : State) (v : Power) : (s.setPower v).pending = s.pending := rfl
@[simp] theorem State.setPower_settings (s : State) (v : Power) : (s.setPower v).settings = s.settings := rfl
@[simp] theorem State.setPower_elapsed (s : State) (v : Power) (m : Moment) : elapsed (s.setPower v) m = elapsed s m := rfl

/-! ### setLocks -/

@[simp] theorem State.setLocks_supply (s : State) (v : PerBay BayLock) : (s.setLocks v).supply = s.supply := rfl
@[simp] theorem State.setLocks_coldMark (s : State) (v : PerBay BayLock) : (s.setLocks v).coldMark = s.coldMark := rfl
@[simp] theorem State.setLocks_timeBase (s : State) (v : PerBay BayLock) : (s.setLocks v).timeBase = s.timeBase := rfl
@[simp] theorem State.setLocks_store (s : State) (v : PerBay BayLock) : (s.setLocks v).store = s.store := rfl
@[simp] theorem State.setLocks_startRec (s : State) (v : PerBay BayLock) : (s.setLocks v).startRec = s.startRec := rfl
@[simp] theorem State.setLocks_pins (s : State) (v : PerBay BayLock) : (s.setLocks v).pins = s.pins := rfl
@[simp] theorem State.setLocks_link (s : State) (v : PerBay BayLock) : (s.setLocks v).link = s.link := rfl
@[simp] theorem State.setLocks_scanner (s : State) (v : PerBay BayLock) : (s.setLocks v).scanner = s.scanner := rfl
@[simp] theorem State.setLocks_power (s : State) (v : PerBay BayLock) : (s.setLocks v).power = s.power := rfl
@[simp] theorem State.setLocks_locks (s : State) (v : PerBay BayLock) : (s.setLocks v).locks = v := rfl
@[simp] theorem State.setLocks_ambient (s : State) (v : PerBay BayLock) : (s.setLocks v).ambient = s.ambient := rfl
@[simp] theorem State.setLocks_backlight (s : State) (v : PerBay BayLock) : (s.setLocks v).backlight = s.backlight := rfl
@[simp] theorem State.setLocks_motion (s : State) (v : PerBay BayLock) : (s.setLocks v).motion = s.motion := rfl
@[simp] theorem State.setLocks_drop (s : State) (v : PerBay BayLock) : (s.setLocks v).drop = s.drop := rfl
@[simp] theorem State.setLocks_freeCount (s : State) (v : PerBay BayLock) : (s.setLocks v).freeCount = s.freeCount := rfl
@[simp] theorem State.setLocks_pending (s : State) (v : PerBay BayLock) : (s.setLocks v).pending = s.pending := rfl
@[simp] theorem State.setLocks_settings (s : State) (v : PerBay BayLock) : (s.setLocks v).settings = s.settings := rfl
@[simp] theorem State.setLocks_elapsed (s : State) (v : PerBay BayLock) (m : Moment) : elapsed (s.setLocks v) m = elapsed s m := rfl

/-! ### setAmbient -/

@[simp] theorem State.setAmbient_supply (s : State) (v : Ambient) : (s.setAmbient v).supply = s.supply := rfl
@[simp] theorem State.setAmbient_coldMark (s : State) (v : Ambient) : (s.setAmbient v).coldMark = s.coldMark := rfl
@[simp] theorem State.setAmbient_timeBase (s : State) (v : Ambient) : (s.setAmbient v).timeBase = s.timeBase := rfl
@[simp] theorem State.setAmbient_store (s : State) (v : Ambient) : (s.setAmbient v).store = s.store := rfl
@[simp] theorem State.setAmbient_startRec (s : State) (v : Ambient) : (s.setAmbient v).startRec = s.startRec := rfl
@[simp] theorem State.setAmbient_pins (s : State) (v : Ambient) : (s.setAmbient v).pins = s.pins := rfl
@[simp] theorem State.setAmbient_link (s : State) (v : Ambient) : (s.setAmbient v).link = s.link := rfl
@[simp] theorem State.setAmbient_scanner (s : State) (v : Ambient) : (s.setAmbient v).scanner = s.scanner := rfl
@[simp] theorem State.setAmbient_power (s : State) (v : Ambient) : (s.setAmbient v).power = s.power := rfl
@[simp] theorem State.setAmbient_locks (s : State) (v : Ambient) : (s.setAmbient v).locks = s.locks := rfl
@[simp] theorem State.setAmbient_ambient (s : State) (v : Ambient) : (s.setAmbient v).ambient = v := rfl
@[simp] theorem State.setAmbient_backlight (s : State) (v : Ambient) : (s.setAmbient v).backlight = s.backlight := rfl
@[simp] theorem State.setAmbient_motion (s : State) (v : Ambient) : (s.setAmbient v).motion = s.motion := rfl
@[simp] theorem State.setAmbient_drop (s : State) (v : Ambient) : (s.setAmbient v).drop = s.drop := rfl
@[simp] theorem State.setAmbient_freeCount (s : State) (v : Ambient) : (s.setAmbient v).freeCount = s.freeCount := rfl
@[simp] theorem State.setAmbient_pending (s : State) (v : Ambient) : (s.setAmbient v).pending = s.pending := rfl
@[simp] theorem State.setAmbient_settings (s : State) (v : Ambient) : (s.setAmbient v).settings = s.settings := rfl
@[simp] theorem State.setAmbient_elapsed (s : State) (v : Ambient) (m : Moment) : elapsed (s.setAmbient v) m = elapsed s m := rfl

/-! ### setBacklight -/

@[simp] theorem State.setBacklight_supply (s : State) (v : Backlight) : (s.setBacklight v).supply = s.supply := rfl
@[simp] theorem State.setBacklight_coldMark (s : State) (v : Backlight) : (s.setBacklight v).coldMark = s.coldMark := rfl
@[simp] theorem State.setBacklight_timeBase (s : State) (v : Backlight) : (s.setBacklight v).timeBase = s.timeBase := rfl
@[simp] theorem State.setBacklight_store (s : State) (v : Backlight) : (s.setBacklight v).store = s.store := rfl
@[simp] theorem State.setBacklight_startRec (s : State) (v : Backlight) : (s.setBacklight v).startRec = s.startRec := rfl
@[simp] theorem State.setBacklight_pins (s : State) (v : Backlight) : (s.setBacklight v).pins = s.pins := rfl
@[simp] theorem State.setBacklight_link (s : State) (v : Backlight) : (s.setBacklight v).link = s.link := rfl
@[simp] theorem State.setBacklight_scanner (s : State) (v : Backlight) : (s.setBacklight v).scanner = s.scanner := rfl
@[simp] theorem State.setBacklight_power (s : State) (v : Backlight) : (s.setBacklight v).power = s.power := rfl
@[simp] theorem State.setBacklight_locks (s : State) (v : Backlight) : (s.setBacklight v).locks = s.locks := rfl
@[simp] theorem State.setBacklight_ambient (s : State) (v : Backlight) : (s.setBacklight v).ambient = s.ambient := rfl
@[simp] theorem State.setBacklight_backlight (s : State) (v : Backlight) : (s.setBacklight v).backlight = v := rfl
@[simp] theorem State.setBacklight_motion (s : State) (v : Backlight) : (s.setBacklight v).motion = s.motion := rfl
@[simp] theorem State.setBacklight_drop (s : State) (v : Backlight) : (s.setBacklight v).drop = s.drop := rfl
@[simp] theorem State.setBacklight_freeCount (s : State) (v : Backlight) : (s.setBacklight v).freeCount = s.freeCount := rfl
@[simp] theorem State.setBacklight_pending (s : State) (v : Backlight) : (s.setBacklight v).pending = s.pending := rfl
@[simp] theorem State.setBacklight_settings (s : State) (v : Backlight) : (s.setBacklight v).settings = s.settings := rfl
@[simp] theorem State.setBacklight_elapsed (s : State) (v : Backlight) (m : Moment) : elapsed (s.setBacklight v) m = elapsed s m := rfl

/-! ### setMotion -/

@[simp] theorem State.setMotion_supply (s : State) (v : Motion) : (s.setMotion v).supply = s.supply := rfl
@[simp] theorem State.setMotion_coldMark (s : State) (v : Motion) : (s.setMotion v).coldMark = s.coldMark := rfl
@[simp] theorem State.setMotion_timeBase (s : State) (v : Motion) : (s.setMotion v).timeBase = s.timeBase := rfl
@[simp] theorem State.setMotion_store (s : State) (v : Motion) : (s.setMotion v).store = s.store := rfl
@[simp] theorem State.setMotion_startRec (s : State) (v : Motion) : (s.setMotion v).startRec = s.startRec := rfl
@[simp] theorem State.setMotion_pins (s : State) (v : Motion) : (s.setMotion v).pins = s.pins := rfl
@[simp] theorem State.setMotion_link (s : State) (v : Motion) : (s.setMotion v).link = s.link := rfl
@[simp] theorem State.setMotion_scanner (s : State) (v : Motion) : (s.setMotion v).scanner = s.scanner := rfl
@[simp] theorem State.setMotion_power (s : State) (v : Motion) : (s.setMotion v).power = s.power := rfl
@[simp] theorem State.setMotion_locks (s : State) (v : Motion) : (s.setMotion v).locks = s.locks := rfl
@[simp] theorem State.setMotion_ambient (s : State) (v : Motion) : (s.setMotion v).ambient = s.ambient := rfl
@[simp] theorem State.setMotion_backlight (s : State) (v : Motion) : (s.setMotion v).backlight = s.backlight := rfl
@[simp] theorem State.setMotion_motion (s : State) (v : Motion) : (s.setMotion v).motion = v := rfl
@[simp] theorem State.setMotion_drop (s : State) (v : Motion) : (s.setMotion v).drop = s.drop := rfl
@[simp] theorem State.setMotion_freeCount (s : State) (v : Motion) : (s.setMotion v).freeCount = s.freeCount := rfl
@[simp] theorem State.setMotion_pending (s : State) (v : Motion) : (s.setMotion v).pending = s.pending := rfl
@[simp] theorem State.setMotion_settings (s : State) (v : Motion) : (s.setMotion v).settings = s.settings := rfl
@[simp] theorem State.setMotion_elapsed (s : State) (v : Motion) (m : Moment) : elapsed (s.setMotion v) m = elapsed s m := rfl

/-! ### setDrop -/

@[simp] theorem State.setDrop_supply (s : State) (v : Drop) : (s.setDrop v).supply = s.supply := rfl
@[simp] theorem State.setDrop_coldMark (s : State) (v : Drop) : (s.setDrop v).coldMark = s.coldMark := rfl
@[simp] theorem State.setDrop_timeBase (s : State) (v : Drop) : (s.setDrop v).timeBase = s.timeBase := rfl
@[simp] theorem State.setDrop_store (s : State) (v : Drop) : (s.setDrop v).store = s.store := rfl
@[simp] theorem State.setDrop_startRec (s : State) (v : Drop) : (s.setDrop v).startRec = s.startRec := rfl
@[simp] theorem State.setDrop_pins (s : State) (v : Drop) : (s.setDrop v).pins = s.pins := rfl
@[simp] theorem State.setDrop_link (s : State) (v : Drop) : (s.setDrop v).link = s.link := rfl
@[simp] theorem State.setDrop_scanner (s : State) (v : Drop) : (s.setDrop v).scanner = s.scanner := rfl
@[simp] theorem State.setDrop_power (s : State) (v : Drop) : (s.setDrop v).power = s.power := rfl
@[simp] theorem State.setDrop_locks (s : State) (v : Drop) : (s.setDrop v).locks = s.locks := rfl
@[simp] theorem State.setDrop_ambient (s : State) (v : Drop) : (s.setDrop v).ambient = s.ambient := rfl
@[simp] theorem State.setDrop_backlight (s : State) (v : Drop) : (s.setDrop v).backlight = s.backlight := rfl
@[simp] theorem State.setDrop_motion (s : State) (v : Drop) : (s.setDrop v).motion = s.motion := rfl
@[simp] theorem State.setDrop_drop (s : State) (v : Drop) : (s.setDrop v).drop = v := rfl
@[simp] theorem State.setDrop_freeCount (s : State) (v : Drop) : (s.setDrop v).freeCount = s.freeCount := rfl
@[simp] theorem State.setDrop_pending (s : State) (v : Drop) : (s.setDrop v).pending = s.pending := rfl
@[simp] theorem State.setDrop_settings (s : State) (v : Drop) : (s.setDrop v).settings = s.settings := rfl
@[simp] theorem State.setDrop_elapsed (s : State) (v : Drop) (m : Moment) : elapsed (s.setDrop v) m = elapsed s m := rfl

/-! ### setFreeCount -/

@[simp] theorem State.setFreeCount_supply (s : State) (v : Nat) : (s.setFreeCount v).supply = s.supply := rfl
@[simp] theorem State.setFreeCount_coldMark (s : State) (v : Nat) : (s.setFreeCount v).coldMark = s.coldMark := rfl
@[simp] theorem State.setFreeCount_timeBase (s : State) (v : Nat) : (s.setFreeCount v).timeBase = s.timeBase := rfl
@[simp] theorem State.setFreeCount_store (s : State) (v : Nat) : (s.setFreeCount v).store = s.store := rfl
@[simp] theorem State.setFreeCount_startRec (s : State) (v : Nat) : (s.setFreeCount v).startRec = s.startRec := rfl
@[simp] theorem State.setFreeCount_pins (s : State) (v : Nat) : (s.setFreeCount v).pins = s.pins := rfl
@[simp] theorem State.setFreeCount_link (s : State) (v : Nat) : (s.setFreeCount v).link = s.link := rfl
@[simp] theorem State.setFreeCount_scanner (s : State) (v : Nat) : (s.setFreeCount v).scanner = s.scanner := rfl
@[simp] theorem State.setFreeCount_power (s : State) (v : Nat) : (s.setFreeCount v).power = s.power := rfl
@[simp] theorem State.setFreeCount_locks (s : State) (v : Nat) : (s.setFreeCount v).locks = s.locks := rfl
@[simp] theorem State.setFreeCount_ambient (s : State) (v : Nat) : (s.setFreeCount v).ambient = s.ambient := rfl
@[simp] theorem State.setFreeCount_backlight (s : State) (v : Nat) : (s.setFreeCount v).backlight = s.backlight := rfl
@[simp] theorem State.setFreeCount_motion (s : State) (v : Nat) : (s.setFreeCount v).motion = s.motion := rfl
@[simp] theorem State.setFreeCount_drop (s : State) (v : Nat) : (s.setFreeCount v).drop = s.drop := rfl
@[simp] theorem State.setFreeCount_freeCount (s : State) (v : Nat) : (s.setFreeCount v).freeCount = v := rfl
@[simp] theorem State.setFreeCount_pending (s : State) (v : Nat) : (s.setFreeCount v).pending = s.pending := rfl
@[simp] theorem State.setFreeCount_settings (s : State) (v : Nat) : (s.setFreeCount v).settings = s.settings := rfl
@[simp] theorem State.setFreeCount_elapsed (s : State) (v : Nat) (m : Moment) : elapsed (s.setFreeCount v) m = elapsed s m := rfl

/-! ### setPending -/

@[simp] theorem State.setPending_supply (s : State) (v : List Instr) : (s.setPending v).supply = s.supply := rfl
@[simp] theorem State.setPending_coldMark (s : State) (v : List Instr) : (s.setPending v).coldMark = s.coldMark := rfl
@[simp] theorem State.setPending_timeBase (s : State) (v : List Instr) : (s.setPending v).timeBase = s.timeBase := rfl
@[simp] theorem State.setPending_store (s : State) (v : List Instr) : (s.setPending v).store = s.store := rfl
@[simp] theorem State.setPending_startRec (s : State) (v : List Instr) : (s.setPending v).startRec = s.startRec := rfl
@[simp] theorem State.setPending_pins (s : State) (v : List Instr) : (s.setPending v).pins = s.pins := rfl
@[simp] theorem State.setPending_link (s : State) (v : List Instr) : (s.setPending v).link = s.link := rfl
@[simp] theorem State.setPending_scanner (s : State) (v : List Instr) : (s.setPending v).scanner = s.scanner := rfl
@[simp] theorem State.setPending_power (s : State) (v : List Instr) : (s.setPending v).power = s.power := rfl
@[simp] theorem State.setPending_locks (s : State) (v : List Instr) : (s.setPending v).locks = s.locks := rfl
@[simp] theorem State.setPending_ambient (s : State) (v : List Instr) : (s.setPending v).ambient = s.ambient := rfl
@[simp] theorem State.setPending_backlight (s : State) (v : List Instr) : (s.setPending v).backlight = s.backlight := rfl
@[simp] theorem State.setPending_motion (s : State) (v : List Instr) : (s.setPending v).motion = s.motion := rfl
@[simp] theorem State.setPending_drop (s : State) (v : List Instr) : (s.setPending v).drop = s.drop := rfl
@[simp] theorem State.setPending_freeCount (s : State) (v : List Instr) : (s.setPending v).freeCount = s.freeCount := rfl
@[simp] theorem State.setPending_pending (s : State) (v : List Instr) : (s.setPending v).pending = v := rfl
@[simp] theorem State.setPending_settings (s : State) (v : List Instr) : (s.setPending v).settings = s.settings := rfl
@[simp] theorem State.setPending_elapsed (s : State) (v : List Instr) (m : Moment) : elapsed (s.setPending v) m = elapsed s m := rfl

/-! ### setSettings -/

@[simp] theorem State.setSettings_supply (s : State) (v : Settings) : (s.setSettings v).supply = s.supply := rfl
@[simp] theorem State.setSettings_coldMark (s : State) (v : Settings) : (s.setSettings v).coldMark = s.coldMark := rfl
@[simp] theorem State.setSettings_timeBase (s : State) (v : Settings) : (s.setSettings v).timeBase = s.timeBase := rfl
@[simp] theorem State.setSettings_store (s : State) (v : Settings) : (s.setSettings v).store = Store.withWord { s.store with settings := v } := rfl
@[simp] theorem State.setSettings_startRec (s : State) (v : Settings) : (s.setSettings v).startRec = s.startRec := rfl
@[simp] theorem State.setSettings_pins (s : State) (v : Settings) : (s.setSettings v).pins = s.pins := rfl
@[simp] theorem State.setSettings_link (s : State) (v : Settings) : (s.setSettings v).link = s.link := rfl
@[simp] theorem State.setSettings_scanner (s : State) (v : Settings) : (s.setSettings v).scanner = s.scanner := rfl
@[simp] theorem State.setSettings_power (s : State) (v : Settings) : (s.setSettings v).power = s.power := rfl
@[simp] theorem State.setSettings_locks (s : State) (v : Settings) : (s.setSettings v).locks = s.locks := rfl
@[simp] theorem State.setSettings_ambient (s : State) (v : Settings) : (s.setSettings v).ambient = s.ambient := rfl
@[simp] theorem State.setSettings_backlight (s : State) (v : Settings) : (s.setSettings v).backlight = s.backlight := rfl
@[simp] theorem State.setSettings_motion (s : State) (v : Settings) : (s.setSettings v).motion = s.motion := rfl
@[simp] theorem State.setSettings_drop (s : State) (v : Settings) : (s.setSettings v).drop = s.drop := rfl
@[simp] theorem State.setSettings_freeCount (s : State) (v : Settings) : (s.setSettings v).freeCount = s.freeCount := rfl
@[simp] theorem State.setSettings_pending (s : State) (v : Settings) : (s.setSettings v).pending = s.pending := rfl
@[simp] theorem State.setSettings_settings (s : State) (v : Settings) : (s.setSettings v).settings = v := rfl

/-! ### The retained store -/

@[simp] theorem Store.withWord_settings (st : Store) : st.withWord.settings = st.settings := rfl
@[simp] theorem Store.withWord_log (st : Store) : st.withWord.log = st.log := rfl
@[simp] theorem Store.withWord_nextSeq (st : Store) : st.withWord.nextSeq = st.nextSeq := rfl
@[simp] theorem Store.withWord_checkWord (st : Store) : st.withWord.checkWord = st.wordOf := rfl
@[simp] theorem Store.corrupted_settings (st : Store) (n : Nat) : (st.corrupted n).settings = st.settings := rfl
@[simp] theorem Store.corrupted_log (st : Store) (n : Nat) : (st.corrupted n).log = st.log := rfl
@[simp] theorem Store.corrupted_nextSeq (st : Store) (n : Nat) : (st.corrupted n).nextSeq = st.nextSeq := rfl

/-- A store changed with its check word is intact (R22). -/
@[simp] theorem Store.withWord_intact (st : Store) : st.withWord.intact = true := beq_self_eq_true _

/-- The cold store is intact (R19). -/
@[simp] theorem Store.cold_intact : Store.cold.intact = true := Store.withWord_intact _

/-- A corrupted store is not intact, whatever the free amount (R22). -/
@[simp] theorem Store.corrupted_intact (st : Store) (n : Nat) : (st.corrupted n).intact = false := by
  have hc := (Config.corruption n).isLt
  have hne : BitVec.ofNat 32 ((Config.corruption n).val + 1) ≠ 0 := by
    intro h
    have := congrArg BitVec.toNat h
    simp only [BitVec.toNat_ofNat, BitVec.ofNat_eq_ofNat] at this
    omega
  refine beq_eq_false_iff_ne.mpr fun h => hne ?_
  have h' : st.wordOf + BitVec.ofNat 32 ((Config.corruption n).val + 1) = st.wordOf := h
  bv_omega

end Sys2Proof.Machine
end

