-- ==== Sys2Proof/Laws/Ops.lean ====
section
/-! SUPPORT. What the shared operations of Ops can do: posting, LTX's choice, the close of an act, and the service of a
request. -/

namespace Sys2Proof.Machine

/-! ### Posting a notice -/

@[simp] theorem post_supply (c : Cause) (s : State) : (post c s).supply = s.supply := rfl
@[simp] theorem post_coldMark (c : Cause) (s : State) : (post c s).coldMark = s.coldMark := rfl
@[simp] theorem post_timeBase (c : Cause) (s : State) : (post c s).timeBase = s.timeBase := rfl
@[simp] theorem post_store (c : Cause) (s : State) : (post c s).store = s.store := rfl
@[simp] theorem post_startRec (c : Cause) (s : State) : (post c s).startRec = s.startRec := rfl
@[simp] theorem post_pins (c : Cause) (s : State) : (post c s).pins = s.pins := rfl
@[simp] theorem post_scanner (c : Cause) (s : State) : (post c s).scanner = s.scanner := rfl
@[simp] theorem post_power (c : Cause) (s : State) : (post c s).power = s.power := rfl
@[simp] theorem post_locks (c : Cause) (s : State) : (post c s).locks = s.locks := rfl
@[simp] theorem post_ambient (c : Cause) (s : State) : (post c s).ambient = s.ambient := rfl
@[simp] theorem post_backlight (c : Cause) (s : State) : (post c s).backlight = s.backlight := rfl
@[simp] theorem post_motion (c : Cause) (s : State) : (post c s).motion = s.motion := rfl
@[simp] theorem post_drop (c : Cause) (s : State) : (post c s).drop = s.drop := rfl
@[simp] theorem post_freeCount (c : Cause) (s : State) : (post c s).freeCount = s.freeCount := rfl
@[simp] theorem post_pending (c : Cause) (s : State) : (post c s).pending = s.pending := rfl
@[simp] theorem post_link_rx (c : Cause) (s : State) : (post c s).link.rx = s.link.rx := rfl
@[simp] theorem post_link_queue (c : Cause) (s : State) : (post c s).link.queue = s.link.queue := rfl
@[simp] theorem post_link_replies (c : Cause) (s : State) : (post c s).link.replies = s.link.replies := rfl
@[simp] theorem post_link_ltx (c : Cause) (s : State) : (post c s).link.ltx = s.link.ltx := rfl
@[simp] theorem post_link_mode (c : Cause) (s : State) : (post c s).link.mode = s.link.mode := rfl
@[simp] theorem post_link_notices (c : Cause) (s : State) : (post c s).link.notices = postEntry c s.link.notices := rfl
@[simp] theorem post_link_wakeN (c : Cause) (s : State) : (post c s).link.wakeN = s.link.wakeN := rfl
@[simp] theorem post_link_restart (c : Cause) (s : State) : (post c s).link.restart = s.link.restart := rfl
@[simp] theorem post_settings (c : Cause) (s : State) : (post c s).settings = s.settings := rfl

/-- What a conditional post can do: post the cause, or nothing. -/
theorem postIf_cases (b : Bool) (c : Cause) (s : State) : postIf b c s = post c s ∧ b = true ∨ postIf b c s = s ∧ b = false := by
  cases b <;> simp [postIf]

@[simp] theorem postIf_true (c : Cause) (s : State) : postIf true c s = post c s := rfl
@[simp] theorem postIf_false (c : Cause) (s : State) : postIf false c s = s := rfl
@[simp] theorem postIf_supply (b : Bool) (c : Cause) (s : State) : (postIf b c s).supply = s.supply := by cases b <;> rfl
@[simp] theorem postIf_coldMark (b : Bool) (c : Cause) (s : State) : (postIf b c s).coldMark = s.coldMark := by cases b <;> rfl
@[simp] theorem postIf_timeBase (b : Bool) (c : Cause) (s : State) : (postIf b c s).timeBase = s.timeBase := by cases b <;> rfl
@[simp] theorem postIf_store (b : Bool) (c : Cause) (s : State) : (postIf b c s).store = s.store := by cases b <;> rfl
@[simp] theorem postIf_startRec (b : Bool) (c : Cause) (s : State) : (postIf b c s).startRec = s.startRec := by cases b <;> rfl
@[simp] theorem postIf_pins (b : Bool) (c : Cause) (s : State) : (postIf b c s).pins = s.pins := by cases b <;> rfl
@[simp] theorem postIf_scanner (b : Bool) (c : Cause) (s : State) : (postIf b c s).scanner = s.scanner := by cases b <;> rfl
@[simp] theorem postIf_power (b : Bool) (c : Cause) (s : State) : (postIf b c s).power = s.power := by cases b <;> rfl
@[simp] theorem postIf_locks (b : Bool) (c : Cause) (s : State) : (postIf b c s).locks = s.locks := by cases b <;> rfl
@[simp] theorem postIf_ambient (b : Bool) (c : Cause) (s : State) : (postIf b c s).ambient = s.ambient := by cases b <;> rfl
@[simp] theorem postIf_backlight (b : Bool) (c : Cause) (s : State) : (postIf b c s).backlight = s.backlight := by cases b <;> rfl
@[simp] theorem postIf_motion (b : Bool) (c : Cause) (s : State) : (postIf b c s).motion = s.motion := by cases b <;> rfl
@[simp] theorem postIf_drop (b : Bool) (c : Cause) (s : State) : (postIf b c s).drop = s.drop := by cases b <;> rfl
@[simp] theorem postIf_freeCount (b : Bool) (c : Cause) (s : State) : (postIf b c s).freeCount = s.freeCount := by cases b <;> rfl
@[simp] theorem postIf_pending (b : Bool) (c : Cause) (s : State) : (postIf b c s).pending = s.pending := by cases b <;> rfl
@[simp] theorem postIf_link_rx (b : Bool) (c : Cause) (s : State) : (postIf b c s).link.rx = s.link.rx := by cases b <;> rfl
@[simp] theorem postIf_link_queue (b : Bool) (c : Cause) (s : State) : (postIf b c s).link.queue = s.link.queue := by cases b <;> rfl
@[simp] theorem postIf_link_replies (b : Bool) (c : Cause) (s : State) : (postIf b c s).link.replies = s.link.replies := by cases b <;> rfl
@[simp] theorem postIf_link_ltx (b : Bool) (c : Cause) (s : State) : (postIf b c s).link.ltx = s.link.ltx := by cases b <;> rfl
@[simp] theorem postIf_link_mode (b : Bool) (c : Cause) (s : State) : (postIf b c s).link.mode = s.link.mode := by cases b <;> rfl
@[simp] theorem postIf_link_wakeN (b : Bool) (c : Cause) (s : State) : (postIf b c s).link.wakeN = s.link.wakeN := by cases b <;> rfl
@[simp] theorem postIf_link_restart (b : Bool) (c : Cause) (s : State) : (postIf b c s).link.restart = s.link.restart := by cases b <;> rfl
@[simp] theorem postIf_settings (b : Bool) (c : Cause) (s : State) : (postIf b c s).settings = s.settings := by
  cases b <;> rfl
theorem postIf_link_notices (b : Bool) (c : Cause) (s : State) :
    (postIf b c s).link.notices = if b then postEntry c s.link.notices else s.link.notices := by cases b <;> rfl

/-- A post to a queue without the key adds an entry after all others (R13). -/
theorem postEntry_of_absent (c : Cause) (q : List Entry) (h : ∀ e ∈ q, e.key ≠ c.key) :
    postEntry c q = q ++ [{ key := c.key, causes := c.mask, slots := c.slotMask }] := by
  induction q with
  | nil => rfl
  | cons e rest ih =>
    have he : e.key ≠ c.key := h e (by simp)
    simp [postEntry, he, ih fun d hd => h d (by simp [hd])]

/-- The keys after a post: those before it, and the cause's own at the end if it was absent (R13). -/
theorem postEntry_keys (c : Cause) (q : List Entry) :
    (postEntry c q).map (·.key) =
      if c.key ∈ q.map (·.key) then q.map (·.key) else q.map (·.key) ++ [c.key] := by
  induction q with
  | nil => simp [postEntry]
  | cons e rest ih =>
    by_cases he : e.key = c.key
    · simp [postEntry, he]
    · have hne : ¬ c.key = e.key := fun h => he h.symm
      simp only [postEntry, he, if_false, List.map_cons, ih, List.mem_cons, hne, false_or]
      split <;> rfl

/-- A post keeps at most one entry for each key. -/
theorem postEntry_nodup (c : Cause) (q : List Entry) (h : (q.map (·.key)).Nodup) :
    ((postEntry c q).map (·.key)).Nodup := by
  rw [postEntry_keys]
  split
  · exact h
  · next hn => exact List.nodup_append.mpr ⟨h, by simp, by simpa using fun e he hk => hn (List.mem_map.mpr ⟨e, he, hk⟩)⟩

/-- After a post the queue holds the cause (R13). -/
theorem postEntry_holds (c : Cause) (q : List Entry) :
    (postEntry c q).any (fun e => e.key == c.key && (e.causes &&& c.mask) == c.mask) = true := by
  induction q with
  | nil => simp [postEntry]
  | cons e rest ih =>
    by_cases he : e.key = c.key
    · have hm : (e.causes ||| c.mask) &&& c.mask = c.mask := by
        ext i hi; simp; intro h; exact Or.inr h
      simp [postEntry, he, hm]
    · simp only [postEntry, he, if_false, List.any_cons, ih, Bool.or_true]

@[simp] theorem post_holds (c : Cause) (s : State) : (post c s).holds c = true := postEntry_holds c s.link.notices

/-! ### LTX's choice and the close of an act -/

/-- LTX is not free, so nothing is chosen (R10). -/
theorem ltxChoose_of_busy (s : State) (x : Sending) (h : s.link.ltx = some x) : ltxChoose s = s := by
  simp [ltxChoose, h]

/-- LTX is free and a reply waits: it is chosen before any notice (R10). -/
theorem ltxChoose_of_reply (s : State) (r : Reply) (rest : List Reply) (h : s.link.ltx = none) (hr : s.link.replies = r :: rest) :
    ltxChoose s = s.setLink { s.link with ltx := some (.reply r) } := by
  simp [ltxChoose, h, hr]

/-- What LTX's choice can do: nothing; take the reply at the head; or, in TALK, take the oldest notice of the highest class. -/
theorem ltxChoose_cases (s : State) :
    ltxChoose s = s ∨
    (∃ r rest, s.link.ltx = none ∧ s.link.replies = r :: rest ∧
      ltxChoose s = s.setLink { s.link with ltx := some (.reply r) }) ∨
    (∃ e rest, s.link.ltx = none ∧ s.link.replies = [] ∧ s.link.mode = .talk ∧ takeNotice s.link.notices = some (e, rest) ∧
      ltxChoose s = (s.setLink { s.link with ltx := some (.notice (noticePayload s e)), notices := rest }).setFreeCount
        (s.freeCount + freeStride)) := by
  unfold ltxChoose
  cases h : s.link.ltx with
  | some x => exact .inl rfl
  | none =>
    cases hr : s.link.replies with
    | cons r rest => exact .inr (.inl ⟨r, rest, rfl, rfl, rfl⟩)
    | nil =>
      cases hm : s.link.mode with
      | quiet => exact .inl rfl
      | talk =>
        cases hn : takeNotice s.link.notices with
        | none => exact .inl rfl
        | some p => exact .inr (.inr ⟨p.1, p.2, rfl, rfl, rfl, rfl, rfl⟩)

/-- What taking an entry of a class gives: the first of the class, and the others in their order. -/
theorem takeClass_eq_some {k : NoticeClass} {q rest : List Entry} {e : Entry} (h : takeClass k q = some (e, rest)) :
    ∃ early late, q = early ++ e :: late ∧ rest = early ++ late ∧ e.key.cls = k ∧ ∀ d ∈ early, d.key.cls ≠ k := by
  induction q generalizing rest with
  | nil => simp [takeClass] at h
  | cons d q ih =>
    by_cases hd : d.key.cls = k
    · simp only [takeClass, hd, if_true, Option.some.injEq, Prod.mk.injEq] at h
      exact ⟨[], q, by simp [h.1], by simp [h.2], h.1 ▸ hd, by simp⟩
    · simp only [takeClass, hd, if_false, Option.map_eq_some_iff, Prod.exists, Prod.mk.injEq] at h
      obtain ⟨e', rest', ht, rfl, rfl⟩ := h
      obtain ⟨early, late, rfl, rfl, hk, he⟩ := ih ht
      exact ⟨d :: early, late, rfl, rfl, hk, by simpa [hd] using he⟩

/-- No entry of the class is in the queue exactly when none is taken. -/
theorem takeClass_eq_none {k : NoticeClass} {q : List Entry} : takeClass k q = none ↔ ∀ d ∈ q, d.key.cls ≠ k := by
  induction q with
  | nil => simp [takeClass]
  | cons d q ih => by_cases hd : d.key.cls = k <;> simp [takeClass, hd, ih]

@[simp] theorem ltxChoose_supply (s : State) : (ltxChoose s).supply = s.supply := by
  rcases ltxChoose_cases s with h | ⟨r, rest, -, -, h⟩ | ⟨e, rest, -, -, -, -, h⟩ <;> simp [h]
@[simp] theorem ltxChoose_coldMark (s : State) : (ltxChoose s).coldMark = s.coldMark := by
  rcases ltxChoose_cases s with h | ⟨r, rest, -, -, h⟩ | ⟨e, rest, -, -, -, -, h⟩ <;> simp [h]
@[simp] theorem ltxChoose_timeBase (s : State) : (ltxChoose s).timeBase = s.timeBase := by
  rcases ltxChoose_cases s with h | ⟨r, rest, -, -, h⟩ | ⟨e, rest, -, -, -, -, h⟩ <;> simp [h]
@[simp] theorem ltxChoose_store (s : State) : (ltxChoose s).store = s.store := by
  rcases ltxChoose_cases s with h | ⟨r, rest, -, -, h⟩ | ⟨e, rest, -, -, -, -, h⟩ <;> simp [h]
@[simp] theorem ltxChoose_startRec (s : State) : (ltxChoose s).startRec = s.startRec := by
  rcases ltxChoose_cases s with h | ⟨r, rest, -, -, h⟩ | ⟨e, rest, -, -, -, -, h⟩ <;> simp [h]
@[simp] theorem ltxChoose_pins (s : State) : (ltxChoose s).pins = s.pins := by
  rcases ltxChoose_cases s with h | ⟨r, rest, -, -, h⟩ | ⟨e, rest, -, -, -, -, h⟩ <;> simp [h]
@[simp] theorem ltxChoose_scanner (s : State) : (ltxChoose s).scanner = s.scanner := by
  rcases ltxChoose_cases s with h | ⟨r, rest, -, -, h⟩ | ⟨e, rest, -, -, -, -, h⟩ <;> simp [h]
@[simp] theorem ltxChoose_power (s : State) : (ltxChoose s).power = s.power := by
  rcases ltxChoose_cases s with h | ⟨r, rest, -, -, h⟩ | ⟨e, rest, -, -, -, -, h⟩ <;> simp [h]
@[simp] theorem ltxChoose_locks (s : State) : (ltxChoose s).locks = s.locks := by
  rcases ltxChoose_cases s with h | ⟨r, rest, -, -, h⟩ | ⟨e, rest, -, -, -, -, h⟩ <;> simp [h]
@[simp] theorem ltxChoose_ambient (s : State) : (ltxChoose s).ambient = s.ambient := by
  rcases ltxChoose_cases s with h | ⟨r, rest, -, -, h⟩ | ⟨e, rest, -, -, -, -, h⟩ <;> simp [h]
@[simp] theorem ltxChoose_backlight (s : State) : (ltxChoose s).backlight = s.backlight := by
  rcases ltxChoose_cases s with h | ⟨r, rest, -, -, h⟩ | ⟨e, rest, -, -, -, -, h⟩ <;> simp [h]
@[simp] theorem ltxChoose_motion (s : State) : (ltxChoose s).motion = s.motion := by
  rcases ltxChoose_cases s with h | ⟨r, rest, -, -, h⟩ | ⟨e, rest, -, -, -, -, h⟩ <;> simp [h]
@[simp] theorem ltxChoose_drop (s : State) : (ltxChoose s).drop = s.drop := by
  rcases ltxChoose_cases s with h | ⟨r, rest, -, -, h⟩ | ⟨e, rest, -, -, -, -, h⟩ <;> simp [h]
@[simp] theorem ltxChoose_pending (s : State) : (ltxChoose s).pending = s.pending := by
  rcases ltxChoose_cases s with h | ⟨r, rest, -, -, h⟩ | ⟨e, rest, -, -, -, -, h⟩ <;> simp [h]
@[simp] theorem ltxChoose_link_rx (s : State) : (ltxChoose s).link.rx = s.link.rx := by
  rcases ltxChoose_cases s with h | ⟨r, rest, -, -, h⟩ | ⟨e, rest, -, -, -, -, h⟩ <;> simp [h]
@[simp] theorem ltxChoose_link_queue (s : State) : (ltxChoose s).link.queue = s.link.queue := by
  rcases ltxChoose_cases s with h | ⟨r, rest, -, -, h⟩ | ⟨e, rest, -, -, -, -, h⟩ <;> simp [h]
@[simp] theorem ltxChoose_link_replies (s : State) : (ltxChoose s).link.replies = s.link.replies := by
  rcases ltxChoose_cases s with h | ⟨r, rest, -, -, h⟩ | ⟨e, rest, -, -, -, -, h⟩ <;> simp [h]
@[simp] theorem ltxChoose_link_mode (s : State) : (ltxChoose s).link.mode = s.link.mode := by
  rcases ltxChoose_cases s with h | ⟨r, rest, -, -, h⟩ | ⟨e, rest, -, -, -, -, h⟩ <;> simp [h]
@[simp] theorem ltxChoose_link_wakeN (s : State) : (ltxChoose s).link.wakeN = s.link.wakeN := by
  rcases ltxChoose_cases s with h | ⟨r, rest, -, -, h⟩ | ⟨e, rest, -, -, -, -, h⟩ <;> simp [h]
@[simp] theorem ltxChoose_link_restart (s : State) : (ltxChoose s).link.restart = s.link.restart := by
  rcases ltxChoose_cases s with h | ⟨r, rest, -, -, h⟩ | ⟨e, rest, -, -, -, -, h⟩ <;> simp [h]
@[simp] theorem setWake_supply (s : State) : (setWake s).supply = s.supply := rfl
@[simp] theorem setWake_coldMark (s : State) : (setWake s).coldMark = s.coldMark := rfl
@[simp] theorem setWake_timeBase (s : State) : (setWake s).timeBase = s.timeBase := rfl
@[simp] theorem setWake_store (s : State) : (setWake s).store = s.store := rfl
@[simp] theorem setWake_startRec (s : State) : (setWake s).startRec = s.startRec := rfl
@[simp] theorem setWake_pins (s : State) : (setWake s).pins = s.pins := rfl
@[simp] theorem setWake_scanner (s : State) : (setWake s).scanner = s.scanner := rfl
@[simp] theorem setWake_power (s : State) : (setWake s).power = s.power := rfl
@[simp] theorem setWake_locks (s : State) : (setWake s).locks = s.locks := rfl
@[simp] theorem setWake_ambient (s : State) : (setWake s).ambient = s.ambient := rfl
@[simp] theorem setWake_backlight (s : State) : (setWake s).backlight = s.backlight := rfl
@[simp] theorem setWake_motion (s : State) : (setWake s).motion = s.motion := rfl
@[simp] theorem setWake_drop (s : State) : (setWake s).drop = s.drop := rfl
@[simp] theorem setWake_freeCount (s : State) : (setWake s).freeCount = s.freeCount := rfl
@[simp] theorem setWake_pending (s : State) : (setWake s).pending = s.pending := rfl
@[simp] theorem setWake_link_rx (s : State) : (setWake s).link.rx = s.link.rx := rfl
@[simp] theorem setWake_link_queue (s : State) : (setWake s).link.queue = s.link.queue := rfl
@[simp] theorem setWake_link_replies (s : State) : (setWake s).link.replies = s.link.replies := rfl
@[simp] theorem setWake_link_ltx (s : State) : (setWake s).link.ltx = s.link.ltx := rfl
@[simp] theorem setWake_link_mode (s : State) : (setWake s).link.mode = s.link.mode := rfl
@[simp] theorem setWake_link_notices (s : State) : (setWake s).link.notices = s.link.notices := rfl
@[simp] theorem setWake_link_wakeN (s : State) : (setWake s).link.wakeN = wakeLevel s.link.mode s.link.notices := rfl
@[simp] theorem setWake_link_restart (s : State) : (setWake s).link.restart = s.link.restart := rfl
@[simp] theorem finish_supply (s : State) : (finish s).supply = s.supply := by simp [finish]
@[simp] theorem finish_coldMark (s : State) : (finish s).coldMark = s.coldMark := by simp [finish]
@[simp] theorem finish_timeBase (s : State) : (finish s).timeBase = s.timeBase := by simp [finish]
@[simp] theorem finish_store (s : State) : (finish s).store = s.store := by simp [finish]
@[simp] theorem finish_startRec (s : State) : (finish s).startRec = s.startRec := by simp [finish]
@[simp] theorem finish_pins (s : State) : (finish s).pins = s.pins := by simp [finish]
@[simp] theorem finish_scanner (s : State) : (finish s).scanner = s.scanner := by simp [finish]
@[simp] theorem finish_power (s : State) : (finish s).power = s.power := by simp [finish]
@[simp] theorem finish_locks (s : State) : (finish s).locks = s.locks := by simp [finish]
@[simp] theorem finish_ambient (s : State) : (finish s).ambient = s.ambient := by simp [finish]
@[simp] theorem finish_backlight (s : State) : (finish s).backlight = s.backlight := by simp [finish]
@[simp] theorem finish_motion (s : State) : (finish s).motion = s.motion := by simp [finish]
@[simp] theorem finish_drop (s : State) : (finish s).drop = s.drop := by simp [finish]
@[simp] theorem finish_pending (s : State) : (finish s).pending = s.pending := by simp [finish]
@[simp] theorem finish_link_rx (s : State) : (finish s).link.rx = s.link.rx := by simp [finish]
@[simp] theorem finish_link_queue (s : State) : (finish s).link.queue = s.link.queue := by simp [finish]
@[simp] theorem finish_link_replies (s : State) : (finish s).link.replies = s.link.replies := by simp [finish]
@[simp] theorem finish_link_mode (s : State) : (finish s).link.mode = s.link.mode := by simp [finish]
@[simp] theorem finish_link_restart (s : State) : (finish s).link.restart = s.link.restart := by simp [finish]
@[simp] theorem finish_link_ltx (s : State) : (finish s).link.ltx = (ltxChoose s).link.ltx := rfl
@[simp] theorem finish_link_notices (s : State) : (finish s).link.notices = (ltxChoose s).link.notices := rfl
theorem finish_link_wakeN (s : State) :
    (finish s).link.wakeN = wakeLevel s.link.mode (ltxChoose s).link.notices := by simp [finish]
@[simp] theorem finish_settings (s : State) : (finish s).settings = s.settings := by simp [State.settings]

/-- The close of an act while LTX is sending: WAKE_N alone follows. -/
theorem finish_of_busy (s : State) (x : Sending) (h : s.link.ltx = some x) : finish s = setWake s := by
  simp [finish, ltxChoose_of_busy s x h]

/-- The act of an event in RUN. -/
theorem inRun_run (act : State → State) (s : State) (h : s.supply = .run) : inRun act s = .next (finish (act s)) := by
  simp [inRun, h]

/-- Outside RUN the event does nothing. -/
theorem inRun_stopped (act : State → State) (s : State) (h : s.supply ≠ .run) : inRun act s = .next s := by
  unfold inRun; split
  · next hs => exact absurd hs h
  · rfl

/-- The act of a pin's change in RUN. -/
theorem onPin_run (pins : Pins) (act : State → State) (s : State) (h : s.supply = .run) :
    onPin pins act s = .next (finish (act (s.setPins pins))) := by
  simp [onPin, h]

/-- Outside RUN the pin takes its level alone. -/
theorem onPin_stopped (pins : Pins) (act : State → State) (s : State) (h : s.supply ≠ .run) :
    onPin pins act s = .next (s.setPins pins) := by
  unfold onPin; split
  · next hs => exact absurd hs h
  · rfl

/-! ### Requests -/

/-- The service of a request that is ready (R5, R6): its service runs on the state with the request at the head of the
queue, and the request is noted as served. -/
theorem serveRequest_ready (kind : Byte) (serve : List Byte → State → Served) (tag : Byte) (p : List Byte) (s : State)
    (h : Ready kind tag p s) :
    serveRequest kind serve tag p s =
      noteServed ⟨kind, tag, p, false⟩ s.link.queue.tail
        (serve p (s.setLink { s.link with queue := ⟨kind, tag, p, false⟩ :: s.link.queue.tail })) := by
  obtain ⟨-, ht, hq | hq⟩ := h
  · have hd : deliver kind tag p s = s.setLink { s.link with queue := [⟨kind, tag, p, false⟩] } := by
      rw [deliver, if_neg ht, hq]; rfl
    have ha : awaitsService kind tag p s = false := by rw [awaitsService, hq]; rfl
    rw [serveRequest, ha, hd, hq]; rfl
  · obtain ⟨rest, hl⟩ : ∃ rest, s.link.queue = ⟨kind, tag, p, false⟩ :: rest := by
      cases hl : s.link.queue with
      | nil => simp [hl] at hq
      | cons r rest => simp only [hl, List.head?_cons, Option.some.injEq] at hq; exact ⟨rest, by rw [hq]⟩
    have ha : awaitsService kind tag p s = true := by simp [awaitsService, hl]
    have hs : s.setLink { s.link with queue := ⟨kind, tag, p, false⟩ :: s.link.queue.tail } = s := by
      rw [hl, List.tail_cons, ← hl]; rfl
    rw [hs, serveRequest, ha, if_pos rfl, serveHead, hl]; rfl

/-- A ready request command: the close of its service. -/
theorem request_ready (kind : Byte) (serve : List Byte → State → Served) (tag : Byte) (p : List Byte) (s : State)
    (h : Ready kind tag p s) :
    request kind serve tag p s = .next (finish
      (noteServed ⟨kind, tag, p, false⟩ s.link.queue.tail
        (serve p (s.setLink { s.link with queue := ⟨kind, tag, p, false⟩ :: s.link.queue.tail })))) := by
  rw [request, inRun_run _ _ h.1, serveRequest_ready _ _ _ _ _ h]

/-- The close of an act whose request has just been answered, in terms of the state `t` its service left: the reply is at
the end of the list, and on LTX if that was free and no reply waited before it (R6, R7, R10). -/
theorem finish_noteServed (r : Request) (rest : List Request) (t : State) (bytes : List Byte) :
    finish (noteServed r rest ⟨t, some bytes⟩) =
      { t with link := { t.link with
          queue := { r with served := true } :: rest
          replies := t.link.replies ++ [replyTo r.kind r.tag bytes]
          ltx := t.link.ltx.or ((t.link.replies ++ [replyTo r.kind r.tag bytes]).head?.map Sending.reply)
          wakeN := wakeLevel t.link.mode t.link.notices } } := by
  have hn : noteServed r rest ⟨t, some bytes⟩ =
      t.setLink { t.link with
        queue := { r with served := true } :: rest, replies := t.link.replies ++ [replyTo r.kind r.tag bytes] } := rfl
  rw [hn]
  obtain ⟨h, tl, hl⟩ : ∃ h tl, t.link.replies ++ [replyTo r.kind r.tag bytes] = h :: tl := by
    cases t.link.replies <;> simp
  rw [hl]
  cases hx : t.link.ltx with
  | some x => rw [finish_of_busy _ x (by simpa using hx)]; simp [setWake, State.setLink, hx]
  | none =>
    rw [finish, ltxChoose_of_reply _ h tl (by simpa using hx) (by simp)]
    simp [setWake, State.setLink]

/-- A ready request whose service answers at once and changes nothing leaves `State.replied`. -/
theorem request_replied (kind : Byte) (serve : List Byte → State → Served) (tag : Byte) (p bytes : List Byte) (s : State)
    (h : Ready kind tag p s)
    (hs : serve p (s.setLink { s.link with queue := ⟨kind, tag, p, false⟩ :: s.link.queue.tail }) =
      ⟨s.setLink { s.link with queue := ⟨kind, tag, p, false⟩ :: s.link.queue.tail }, some bytes⟩) :
    request kind serve tag p s = .next (s.replied kind tag p bytes) := by
  rw [request_ready _ _ _ _ _ h, hs, finish_noteServed]; rfl

/-- A payload of another length is refused, and nothing else happens (R8). -/
theorem withLength_ne (p : List Byte) (n : Nat) (s : State) (k : Unit → Served) (h : p.length ≠ n) :
    withLength p n s k = refuse .badLength s := by simp [withLength, h]

/-- A payload of the right length goes on to the rest of the checks (R8). -/
theorem withLength_eq (p : List Byte) (n : Nat) (s : State) (k : Unit → Served) (h : p.length = n) :
    withLength p n s k = k () := by simp [withLength, h]

/-- What handing on a delivered frame can do (R5): TAG 0 is discarded; a free place takes the request; else BUSY is
answered while fewer than three such replies wait; else the frame is discarded. -/
theorem deliver_cases (kind tag : Byte) (p : List Byte) (s : State) :
    (tag ≠ 0 ∧ s.link.queue.length < 2 ∧
      deliver kind tag p s = s.setLink { s.link with queue := s.link.queue ++ [⟨kind, tag, p, false⟩] }) ∨
    (tag ≠ 0 ∧ 2 ≤ s.link.queue.length ∧ busyCount s.link.replies < 3 ∧
      deliver kind tag p s = addReply ⟨replyKind kind, tag, [3], true⟩ s) ∨
    ((tag = 0 ∨ 2 ≤ s.link.queue.length ∧ 3 ≤ busyCount s.link.replies) ∧ deliver kind tag p s = s) := by
  by_cases h0 : tag = 0
  · exact .inr (.inr ⟨.inl h0, if_pos h0⟩)
  · rw [deliver, if_neg h0]
    by_cases h1 : s.link.queue.length < 2
    · exact .inl ⟨h0, h1, if_pos h1⟩
    · rw [if_neg h1]
      by_cases h2 : busyCount s.link.replies < 3
      · exact .inr (.inl ⟨h0, by omega, h2, if_pos h2⟩)
      · exact .inr (.inr ⟨.inr ⟨by omega, by omega⟩, if_neg h2⟩)

end Sys2Proof.Machine
end

