-- ==== Sys2Proof/Laws/Frames.lean ====
section
/-! SUPPORT. What the acts of the lock controller, the backlight controller and the power path can change, said once for
each of their operations. -/

namespace Sys2Proof.Machine

/-! ### The frame -/

/-- `t` differs from `s` at most in the power path, the locks, the backlight, the notice queue, and the open record. -/
structure PowerFrame (s t : State) : Prop where
  supply : t.supply = s.supply
  coldMark : t.coldMark = s.coldMark
  timeBase : t.timeBase = s.timeBase
  store : t.store = s.store
  startRec : t.startRec = s.startRec
  pins : t.pins = s.pins
  scanner : t.scanner = s.scanner
  ambient : t.ambient = s.ambient
  motion : t.motion = s.motion
  freeCount : t.freeCount = s.freeCount
  pending : t.pending = s.pending
  link_rx : t.link.rx = s.link.rx
  link_queue : t.link.queue = s.link.queue
  link_replies : t.link.replies = s.link.replies
  link_ltx : t.link.ltx = s.link.ltx
  link_mode : t.link.mode = s.link.mode
  link_wakeN : t.link.wakeN = s.link.wakeN
  link_restart : t.link.restart = s.link.restart
  drop_state : t.drop.state = s.drop.state
  drop_lowRun : t.drop.lowRun = s.drop.lowRun
  drop_runStart : t.drop.runStart = s.drop.runStart
  drop_fallCount : t.drop.fallCount = s.drop.fallCount
  drop_returnCount : t.drop.returnCount = s.drop.returnCount
  drop_quietCount : t.drop.quietCount = s.drop.quietCount
  drop_guardCount : t.drop.guardCount = s.drop.guardCount
  drop_contactGuard : t.drop.contactGuard = s.drop.contactGuard
  drop_park : t.drop.park = s.drop.park

/-- Nothing changed. -/
theorem PowerFrame.refl (s : State) : PowerFrame s s := by constructor <;> rfl

/-- One change after another. -/
theorem PowerFrame.trans {s t u : State} (h : PowerFrame s t) (k : PowerFrame t u) : PowerFrame s u :=
  ⟨k.supply.trans h.supply,
   k.coldMark.trans h.coldMark,
   k.timeBase.trans h.timeBase,
   k.store.trans h.store,
   k.startRec.trans h.startRec,
   k.pins.trans h.pins,
   k.scanner.trans h.scanner,
   k.ambient.trans h.ambient,
   k.motion.trans h.motion,
   k.freeCount.trans h.freeCount,
   k.pending.trans h.pending,
   k.link_rx.trans h.link_rx,
   k.link_queue.trans h.link_queue,
   k.link_replies.trans h.link_replies,
   k.link_ltx.trans h.link_ltx,
   k.link_mode.trans h.link_mode,
   k.link_wakeN.trans h.link_wakeN,
   k.link_restart.trans h.link_restart,
   k.drop_state.trans h.drop_state,
   k.drop_lowRun.trans h.drop_lowRun,
   k.drop_runStart.trans h.drop_runStart,
   k.drop_fallCount.trans h.drop_fallCount,
   k.drop_returnCount.trans h.drop_returnCount,
   k.drop_quietCount.trans h.drop_quietCount,
   k.drop_guardCount.trans h.drop_guardCount,
   k.drop_contactGuard.trans h.drop_contactGuard,
   k.drop_park.trans h.drop_park⟩

/-- The frame as one equation. -/
theorem PowerFrame.eq {s t : State} (h : PowerFrame s t) :
    t = { s with
      power := t.power
      locks := t.locks
      backlight := t.backlight
      link := { s.link with notices := t.link.notices }
      drop := { s.drop with record := t.drop.record } } := by
  obtain ⟨h0, h1, h2, h3, h4, h5, h6, h7, h8, h9, h10, h11, h12, h13, h14, h15, h16, h17, h18, h19, h20, h21, h22, h23, h24, h25, h26⟩ := h
  rcases s with ⟨_, _, _, _, _, _, ⟨⟩, _, _, _, _, _, _, ⟨⟩, _, _⟩
  rcases t with ⟨_, _, _, _, _, _, ⟨⟩, _, _, _, _, _, _, ⟨⟩, _, _⟩
  simp_all

theorem PowerFrame.post (c : Cause) (s : State) : PowerFrame s (post c s) := by constructor <;> rfl
theorem PowerFrame.postIf (b : Bool) (c : Cause) (s : State) : PowerFrame s (postIf b c s) := by
  cases b
  · exact .refl s
  · exact .post c s
theorem PowerFrame.setPower (v : Power) (s : State) : PowerFrame s (s.setPower v) := by constructor <;> rfl
theorem PowerFrame.setLocks (v : PerBay BayLock) (s : State) : PowerFrame s (s.setLocks v) := by constructor <;> rfl
theorem PowerFrame.setBacklight (v : Backlight) (s : State) : PowerFrame s (s.setBacklight v) := by constructor <;> rfl
theorem PowerFrame.ite {s t u : State} (p : Prop) [Decidable p] (ht : PowerFrame s t) (hu : PowerFrame s u) :
    PowerFrame s (if p then t else u) := by split <;> assumption

/-! ### Locks and backlight -/

theorem updateLock_frame (bay : Bay) (l : BayLock) (s : State) : PowerFrame s (updateLock bay l s) :=
  ((PowerFrame.setLocks _ s).trans (.postIf _ _ _)).trans (.postIf _ _ _)

theorem changeReasons_frame (bay : Bay) (new : Reasons) (s : State) : PowerFrame s (changeReasons bay new s) :=
  .ite _ (.refl s) (updateLock_frame _ _ s)

/-- What one change of a reason set does to the bay's lock (R99, R101). -/
theorem changeReasons_get (bay : Bay) (new : Reasons) (s : State) (h : (s.locks.get bay).reasons ≠ new) :
    (changeReasons bay new s).locks.get bay = lockWithReasons (s.locks.get bay) new s.timeBase := by
  rw [changeReasons, if_neg h]
  cases bay <;> simp [updateLock, postLockChange, setLock, PerBay.get, PerBay.set]

/-- The bay's reason set after a change is the new one. -/
theorem changeReasons_reasons (bay : Bay) (new : Reasons) (s : State) :
    ((changeReasons bay new s).locks.get bay).reasons = new := by
  by_cases h : (s.locks.get bay).reasons = new
  · simp [changeReasons, h]
  · rw [changeReasons_get bay new s h]; rfl

/-- The power path and the backlight are untouched by a change of a reason set. -/
theorem changeReasons_power (bay : Bay) (new : Reasons) (s : State) :
    (changeReasons bay new s).power = s.power ∧ (changeReasons bay new s).backlight = s.backlight := by
  unfold changeReasons; split <;> simp [updateLock, postLockChange, setLock]

theorem settleBacklight_frame (s : State) : PowerFrame s (settleBacklight s) :=
  ((PowerFrame.setBacklight _ s).trans (.postIf _ _ _)).trans (.postIf _ _ _)

theorem actBacklight_frame (f : Backlight → Backlight) (s : State) : PowerFrame s (actBacklight f s) :=
  (PowerFrame.setBacklight _ s).trans (settleBacklight_frame _)

/-- What an act of the backlight controller leaves in it: the change, settled (R133 to R138). -/
@[simp] theorem actBacklight_backlight (f : Backlight → Backlight) (s : State) :
    (actBacklight f s).backlight = (f s.backlight).settled s.settings.backlight := by
  simp [actBacklight, settleBacklight]

@[simp] theorem actBacklight_power (f : Backlight → Backlight) (s : State) : (actBacklight f s).power = s.power := by
  simp [actBacklight, settleBacklight]

@[simp] theorem actBacklight_locks (f : Backlight → Backlight) (s : State) : (actBacklight f s).locks = s.locks := by
  simp [actBacklight, settleBacklight]

/-! ### The power path -/

theorem setSrc_frame (x : Source) (r : SourceRun) (s : State) : PowerFrame s (setSrc x r s) := .setPower _ s

theorem enterState_frame (x : Source) (st : SourceState) (s : State) : PowerFrame s (enterState x st s) :=
  (((setSrc_frame _ _ s).trans (.postIf _ _ _)).trans (.postIf _ _ _)).trans (.postIf _ _ _)

/-- The records after a move into a state: the source's own as R51 to R67 give it, the others as they were. -/
theorem enterState_src (x : Source) (st : SourceState) (s : State) :
    (enterState x st s).power.src = s.power.src.set x (recordAfter x st s) := by
  simp [enterState, setSrc]

theorem moveTo_frame (x : Source) (d : SourceState) (s : State) : PowerFrame s (moveTo x d s) := enterState_frame _ _ s

theorem takeFault_frame (x : Source) (k : FaultKind) (s : State) : PowerFrame s (takeFault x k s) := enterState_frame _ _ s

theorem closeSource_frame (x : Source) (s : State) : PowerFrame s (closeSource x s) :=
  .ite _ ((moveTo_frame _ _ s).trans (moveTo_frame _ _ _)) (moveTo_frame _ _ s)

theorem openSource_frame (x : Source) (s : State) : PowerFrame s (openSource x s) := by
  unfold openSource; split
  · exact moveTo_frame _ _ s
  · exact moveTo_frame _ _ s
  · exact moveTo_frame _ _ s
  · exact .refl s

theorem onSources_frame (m : SourceSet) (f : Source → State → State) (hf : ∀ x s, PowerFrame s (f x s)) (s : State) :
    PowerFrame s (onSources m f s) := by
  unfold onSources
  generalize m.members = l
  induction l generalizing s with
  | nil => exact .refl s
  | cons x l ih => exact (hf x s).trans (ih _)

theorem endJoin_frame (s : State) : PowerFrame s (endJoin s) := by
  unfold endJoin; split
  · exact .ite _ (.refl s) (.setPower _ s)
  · exact .refl s

theorem nextCandidate_frame (t : Transfer) (s : State) : PowerFrame s (nextCandidate t s).1 := by
  unfold nextCandidate; split
  · exact (PowerFrame.setPower _ s).trans (closeSource_frame _ _)
  · exact (PowerFrame.setPower _ s).trans (.post _ _)

theorem transferDone_frame (t : Transfer) (s : State) : PowerFrame s (transferDone t s).1 :=
  ((onSources_frame _ _ openSource_frame s).trans (.setPower _ _)).trans (.post _ _)

theorem incomingOn_frame (t : Transfer) (s : State) : PowerFrame s (incomingOn t s).1 := by
  unfold incomingOn; split
  · split
    · exact .refl s
    · exact .setPower _ s
  · exact transferDone_frame t s

theorem incomingHeld_frame (t : Transfer) (s : State) : PowerFrame s (incomingHeld t s).1 := by
  unfold incomingHeld; split
  · exact (moveTo_frame _ _ s).trans (nextCandidate_frame _ _)
  · split
    · exact .refl s
    · exact (PowerFrame.setPower _ s).trans (.post _ _)

theorem followStep_frame (s : State) : PowerFrame s (followStep s).1 := by
  unfold followStep; split
  · exact .refl s
  · split
    · exact incomingOn_frame _ s
    · exact .refl s
    · exact incomingHeld_frame _ s
    · exact nextCandidate_frame _ s

theorem evaluateStep_frame (emptied held : Bool) (s : State) : PowerFrame s (evaluateStep emptied held s).1 := by
  have h : PowerFrame s (setDeferred false (endJoin s)) := (endJoin_frame s).trans (.setPower _ _)
  refine h.trans ?_
  unfold evaluateStep
  generalize setDeferred false (endJoin s) = u
  dsimp only
  split
  · exact (PowerFrame.postIf _ _ u).trans (.postIf _ _ _)
  · split
    · exact .refl u
    · split
      · exact onSources_frame _ _ openSource_frame u
      · split
        · exact .refl u
        · split
          · split
            · exact .setPower _ u
            · split
              · exact .refl u
              · exact (PowerFrame.setPower _ u).trans (closeSource_frame _ _)
          · split
            · exact .setPower _ u
            · exact (PowerFrame.setPower _ u).trans (closeSource_frame _ _)

theorem powerStep_frame (task : PowerTask) (s : State) : PowerFrame s (powerStep task s).1 := by
  cases task
  · exact evaluateStep_frame _ _ s
  · exact followStep_frame s

theorem runPower_frame (n : Nat) (task : PowerTask) (s : State) : PowerFrame s (runPower n task s) := by
  induction n generalizing task s with
  | zero => exact .refl s
  | succ n ih =>
    have h := powerStep_frame task s
    unfold runPower
    split
    · next hp => simpa [hp] using h
    · next hp => exact PowerFrame.trans (by simpa [hp] using h) (ih _ _)

theorem takeCondition_frame (c : Condition) (s : State) : PowerFrame s (takeCondition c s) := actBacklight_frame _ s

theorem settleCondition_frame (s : State) : PowerFrame s (settleCondition s) :=
  .ite _ (.refl s) (((PowerFrame.setPower _ s).trans (.post _ _)).trans (takeCondition_frame _ _))

theorem settlePower_frame (s : State) : PowerFrame s (settlePower s) :=
  (((endJoin_frame s).trans (changeReasons_frame _ _ _)).trans (changeReasons_frame _ _ _)).trans (settleCondition_frame _)

/-- An act of the power path stays in the frame if its event does. -/
theorem actPower_frame (forced : Bool) (f : State → State) (s : State) (hf : PowerFrame s (f s)) :
    PowerFrame s (actPower forced f s) := by
  refine hf.trans (PowerFrame.trans ?_ (settlePower_frame _))
  split
  · exact runPower_frame _ _ _
  · split
    · exact runPower_frame _ _ _
    · exact .refl _

theorem absorbedReport_frame (s : State) : PowerFrame s (absorbedReport s) := by
  unfold absorbedReport; split
  · constructor <;> rfl
  · exact .refl s

theorem formPresence_frame (x : Source) (s : State) : PowerFrame s (formPresence x s) := by
  unfold formPresence
  dsimp only
  split
  · exact .refl s
  · split
    · split
      · exact (setSrc_frame _ _ s).trans (absorbedReport_frame _)
      · exact setSrc_frame _ _ s
    · exact setSrc_frame _ _ s

theorem losePresence_frame (x : Source) (s : State) : PowerFrame s (losePresence x s) :=
  ((setSrc_frame _ _ s).trans (enterState_frame _ _ _)).trans (.post _ _)

theorem gainPresence_frame (x : Source) (s : State) : PowerFrame s (gainPresence x s) :=
  .ite _ (((setSrc_frame _ _ s).trans (.post _ _)).trans (moveTo_frame _ _ _)) (setSrc_frame _ _ s)

theorem takePresence_frame (x : Source) (s : State) : PowerFrame s (takePresence x s) :=
  .ite _ (losePresence_frame x s) (gainPresence_frame x s)

theorem takeHeldPresence_frame (x : Source) (s : State) : PowerFrame s (takeHeldPresence x s) :=
  .ite _ (takePresence_frame x s) (.refl s)

theorem takeWindowFault_frame (x : Source) (s : State) : PowerFrame s (takeWindowFault x s) :=
  .ite _ (takeFault_frame _ _ s) (.refl s)

theorem faultFromLine_frame (line : FaultLine) (x : Source) (s : State) : PowerFrame s (faultFromLine line x s) :=
  .ite _ (takeFault_frame _ _ s) (.refl s)

theorem goodConfirmed_frame (x : Source) (s : State) : PowerFrame s (goodConfirmed x s) := by
  unfold goodConfirmed
  dsimp only
  split
  · exact moveTo_frame _ _ s
  · exact setSrc_frame _ _ s
  · exact .refl s

theorem latchLevel_frame (bay : Bay) (opened : Bool) (s : State) : PowerFrame s (latchLevel bay opened s) :=
  setSrc_frame _ _ s

theorem moveIf_frame (x : Source) (d : Option SourceState) (s : State) : PowerFrame s (moveIf x d s) := by
  unfold moveIf; split
  · exact moveTo_frame _ _ s
  · exact .refl s

theorem latchChange_frame (bay : Bay) (s : State) : PowerFrame s (latchChange bay s) := by
  unfold latchChange
  dsimp only
  split
  · exact (setSrc_frame _ _ s).trans (moveIf_frame _ _ _)
  · exact ((setSrc_frame _ _ s).trans (.postIf _ _ _)).trans (moveIf_frame _ _ _)

theorem guardTurnedOff_frame (s : State) : PowerFrame s (guardTurnedOff s) :=
  actPower_frame _ _ s
    ((((takeHeldPresence_frame _ s).trans (takeWindowFault_frame _ _)).trans (takeHeldPresence_frame _ _)).trans
      (takeWindowFault_frame _ _))

/-! ### One value for each source -/

@[simp] theorem PerSource.get_set_self {α : Type} (p : PerSource α) (x : Source) (v : α) : (p.set x v).get x = v := by
  cases x <;> rfl

theorem PerSource.get_set_ne {α : Type} (p : PerSource α) {x y : Source} (v : α) (h : y ≠ x) :
    (p.set x v).get y = p.get y := by
  cases x <;> cases y <;> first | rfl | exact absurd rfl h

@[simp] theorem PerSource.set_set {α : Type} (p : PerSource α) (x : Source) (v w : α) :
    (p.set x v).set x w = p.set x w := by
  cases x <;> rfl

/-! ### The records a move leaves, in the terms of the statements -/

/-- A source in STANDBY or QUALIFY that is closed has the record `closing` (R64). -/
theorem recordAfter_activeClosing {x : Source} {s : State}
    (h : (s.src x).state = .standby ∨ (s.src x).state = .qualify) :
    recordAfter x .activeClosing s = (s.src x).closing s.timeBase := by
  rcases h with h | h <;>
    simp [recordAfter, SourceRun.closing, watchAfter, SourceState.closed, SourceState.takesFaults, SourceState.code, h]

/-- A bay in ACTIVE that moves to RELEASING/HELD keeps its switch closed and its watch going on (R66). -/
theorem recordAfter_releasingHeld {x : Source} {s : State}
    (h : (s.src x).state = .activeOn ∨ (s.src x).state = .activeClosing) :
    recordAfter x .releasingHeld s =
      { (s.src x).held with latchOpen := (s.src x).latchOpen, pendingLatch := (s.src x).pendingLatch } := by
  rcases h with h | h <;>
    simp [recordAfter, SourceRun.held, watchAfter, SourceState.closed, SourceState.takesFaults, SourceState.code, h]

/-- A source that goes to ABSENT with its presence gone has the record `lost` (R55). -/
theorem recordAfter_absent (x : Source) (s : State) :
    { recordAfter x .absent s with presence := false, pendingPresence := none, detachSeen := true } =
      (s.src x).lost := by
  simp [recordAfter, SourceRun.lost, watchAfter, SourceState.closed]

/-- Closing a source in STANDBY with no fault condition: its record is `closing`, or `confirmed` where GOOD_x is asserted,
and no other source changes (R52, R64). -/
theorem closeSource_src {x : Source} {s : State} (h : (s.src x).state = .standby)
    (hf : faultCondition (s.srcSettings x) s.pins x = none) :
    (closeSource x s).power.src = s.power.src.set x
      (if s.pins.good.get x = true then (s.src x).confirmed else (s.src x).closing s.timeBase) := by
  have hc : (moveTo x .activeClosing s).power.src = s.power.src.set x ((s.src x).closing s.timeBase) := by
    rw [moveTo, enterState_src]
    simp [resolveMove, SourceState.takesFaults, hf, recordAfter_activeClosing (.inl h)]
  have hp := moveTo_frame x .activeClosing s
  have hr : (moveTo x .activeClosing s).src x = (s.src x).closing s.timeBase := by
    rw [State.src, hc, PerSource.get_set_self]
  have hg : (moveTo x .activeClosing s).pins = s.pins := hp.pins
  unfold closeSource
  simp only [hr, hg]
  by_cases g : s.pins.good.get x = true
  · simp only [g, SourceRun.closing, decide_true, Bool.and_self, ↓reduceIte]
    rw [moveTo, enterState_src, hc, PerSource.set_set]
    have hf' : faultCondition ((moveTo x .activeClosing s).srcSettings x) s.pins x = none := by
      simpa [State.srcSettings, State.settings, hp.store] using hf
    simp [resolveMove, SourceState.takesFaults, hf', hg, recordAfter, hr, SourceRun.closing, SourceRun.confirmed,
      watchAfter, SourceState.closed, SourceState.code]
  · simp [g, hc]

end Sys2Proof.Machine
end

