-- ==== Sys2Proof/Laws/Motion.lean ====
section
/-! SUPPORT. What the operations of the drop detector and the motion port can change, and what the shared ones among them
do. -/

namespace Sys2Proof.Machine

/-! ### The frames -/

/-- `t` differs from `s` at most in the log, the power path, the locks, the backlight, the notice queue and the drop detector. -/
structure DropFrame (s t : State) : Prop where
  supply : t.supply = s.supply
  coldMark : t.coldMark = s.coldMark
  timeBase : t.timeBase = s.timeBase
  startRec : t.startRec = s.startRec
  pins : t.pins = s.pins
  scanner : t.scanner = s.scanner
  ambient : t.ambient = s.ambient
  freeCount : t.freeCount = s.freeCount
  pending : t.pending = s.pending
  store_settings : t.store.settings = s.store.settings
  motion : t.motion = s.motion
  link_rx : t.link.rx = s.link.rx
  link_queue : t.link.queue = s.link.queue
  link_replies : t.link.replies = s.link.replies
  link_ltx : t.link.ltx = s.link.ltx
  link_mode : t.link.mode = s.link.mode
  link_wakeN : t.link.wakeN = s.link.wakeN
  link_restart : t.link.restart = s.link.restart

/-- Nothing changed. -/
theorem DropFrame.refl (s : State) : DropFrame s s := by constructor <;> rfl

/-- One change after another. -/
theorem DropFrame.trans {s t u : State} (h : DropFrame s t) (k : DropFrame t u) : DropFrame s u :=
  ⟨k.supply.trans h.supply, k.coldMark.trans h.coldMark, k.timeBase.trans h.timeBase, k.startRec.trans h.startRec, k.pins.trans h.pins, k.scanner.trans h.scanner, k.ambient.trans h.ambient, k.freeCount.trans h.freeCount, k.pending.trans h.pending, k.store_settings.trans h.store_settings, k.motion.trans h.motion, k.link_rx.trans h.link_rx, k.link_queue.trans h.link_queue, k.link_replies.trans h.link_replies, k.link_ltx.trans h.link_ltx, k.link_mode.trans h.link_mode, k.link_wakeN.trans h.link_wakeN, k.link_restart.trans h.link_restart⟩

/-- `t` differs from `s` at most as `DropFrame` allows, and in the motion port. -/
structure MotionFrame (s t : State) : Prop where
  supply : t.supply = s.supply
  coldMark : t.coldMark = s.coldMark
  timeBase : t.timeBase = s.timeBase
  startRec : t.startRec = s.startRec
  pins : t.pins = s.pins
  scanner : t.scanner = s.scanner
  ambient : t.ambient = s.ambient
  freeCount : t.freeCount = s.freeCount
  pending : t.pending = s.pending
  store_settings : t.store.settings = s.store.settings
  link_rx : t.link.rx = s.link.rx
  link_queue : t.link.queue = s.link.queue
  link_replies : t.link.replies = s.link.replies
  link_ltx : t.link.ltx = s.link.ltx
  link_mode : t.link.mode = s.link.mode
  link_wakeN : t.link.wakeN = s.link.wakeN
  link_restart : t.link.restart = s.link.restart

/-- Nothing changed. -/
theorem MotionFrame.refl (s : State) : MotionFrame s s := by constructor <;> rfl

/-- One change after another. -/
theorem MotionFrame.trans {s t u : State} (h : MotionFrame s t) (k : MotionFrame t u) : MotionFrame s u :=
  ⟨k.supply.trans h.supply, k.coldMark.trans h.coldMark, k.timeBase.trans h.timeBase, k.startRec.trans h.startRec, k.pins.trans h.pins, k.scanner.trans h.scanner, k.ambient.trans h.ambient, k.freeCount.trans h.freeCount, k.pending.trans h.pending, k.store_settings.trans h.store_settings, k.link_rx.trans h.link_rx, k.link_queue.trans h.link_queue, k.link_replies.trans h.link_replies, k.link_ltx.trans h.link_ltx, k.link_mode.trans h.link_mode, k.link_wakeN.trans h.link_wakeN, k.link_restart.trans h.link_restart⟩

theorem PowerFrame.toDrop {s t : State} (h : PowerFrame s t) : DropFrame s t :=
  ⟨h.supply, h.coldMark, h.timeBase, h.startRec, h.pins, h.scanner, h.ambient, h.freeCount, h.pending, by rw [h.store], h.motion, h.link_rx, h.link_queue, h.link_replies, h.link_ltx, h.link_mode, h.link_wakeN, h.link_restart⟩

theorem DropFrame.toMotion {s t : State} (h : DropFrame s t) : MotionFrame s t :=
  ⟨h.supply, h.coldMark, h.timeBase, h.startRec, h.pins, h.scanner, h.ambient, h.freeCount, h.pending, h.store_settings, h.link_rx, h.link_queue, h.link_replies, h.link_ltx, h.link_mode, h.link_wakeN, h.link_restart⟩

theorem DropFrame.setDrop (v : Drop) (s : State) : DropFrame s (s.setDrop v) := by constructor <;> rfl
theorem MotionFrame.setMotion (v : Motion) (s : State) : MotionFrame s (s.setMotion v) := by constructor <;> rfl
theorem MotionFrame.post (c : Cause) (s : State) : MotionFrame s (post c s) := by constructor <;> rfl
theorem DropFrame.post (c : Cause) (s : State) : DropFrame s (Sys2Proof.Machine.post c s) := by constructor <;> rfl
theorem DropFrame.ite {s t u : State} (p : Prop) [Decidable p] (ht : DropFrame s t) (hu : DropFrame s u) :
    DropFrame s (if p then t else u) := by split <;> assumption
theorem MotionFrame.ite {s t u : State} (p : Prop) [Decidable p] (ht : MotionFrame s t) (hu : MotionFrame s u) :
    MotionFrame s (if p then t else u) := by split <;> assumption

/-! ### The shock log -/

/-- What a write does (R180): the log emptied at the highest next_seq, the oldest of 32 removed, and the record placed
last with the next seq. -/
theorem Store.write_eq (st : Store) (r : ShockRecord) :
    st.write r =
      if st.nextSeq = 4294967295 then Store.withWord { st with log := [{ r with seq := 1 }], nextSeq := 2 }
      else Store.withWord { st with
        log := (if 32 ≤ st.log.length then st.log.tail else st.log) ++ [{ r with seq := st.nextSeq }]
        nextSeq := st.nextSeq + 1 } := by
  unfold Store.write Store.wrapped lastNextSeq dropOldest logCapacity
  split <;> simp

/-- A write keeps the settings. -/
@[simp] theorem Store.write_settings (st : Store) (r : ShockRecord) : (st.write r).settings = st.settings := by
  rw [Store.write_eq]; split <;> rfl

/-- The seq a write assigns is the one R181 announces. -/
theorem Store.write_last (st : Store) (r : ShockRecord) :
    (st.write r).log.getLast? = some { r with seq := nextAssigned st.nextSeq } := by
  rw [Store.write_eq, nextAssigned]; split <;> simp

theorem writeLog_frame (r : ShockRecord) (s : State) : DropFrame s (writeLog r s) := by
  constructor <;> first | rfl | simp [writeLog]

/-! ### The drop detector -/

theorem handDrop_frame (on : Bool) (bay : Bay) (s : State) : PowerFrame s (handDrop on bay s) := changeReasons_frame _ _ s

theorem raiseProtections_frame (s : State) : DropFrame s (raiseProtections s) :=
  (DropFrame.setDrop _ s).trans (((handDrop_frame _ _ _).trans (handDrop_frame _ _ _)).toDrop)

theorem releaseProtections_frame (s : State) : DropFrame s (releaseProtections s) :=
  (DropFrame.setDrop _ s).trans
    ((((guardTurnedOff_frame _).trans (handDrop_frame _ _ _)).trans (handDrop_frame _ _ _)).toDrop)

/-- What a change of DROP leaves in the two reason sets: the bay's own, and nothing in the other. -/
theorem handDrop_reasons (on : Bool) (bay other : Bay) (s : State) :
    ((handDrop on bay s).locks.get other).reasons =
      if other = bay then { (s.locks.get bay).reasons with drop := on } else (s.locks.get other).reasons := by
  by_cases h : other = bay
  · subst h; simp [handDrop, changeReasons_reasons]
  · unfold handDrop changeReasons
    split
    · simp
    · cases bay <;> cases other <;> simp_all [updateLock, postLockChange, setLock, PerBay.get, PerBay.set]

/-- Raising the protections puts DROP into both reason sets (R173). -/
theorem raiseProtections_reasons (s : State) (bay : Bay) :
    ((raiseProtections s).locks.get bay).reasons = { (s.locks.get bay).reasons with drop := true } := by
  cases bay <;> simp [raiseProtections, handDrop_reasons]

/-- Releasing the protections takes DROP out of both reason sets (R173). -/
theorem releaseProtections_drop (s : State) (bay : Bay) :
    ((releaseProtections s).locks.get bay).reasons.drop = false := by
  cases bay <;> simp [releaseProtections, handDrop_reasons]

theorem storeRecord_frame (truncated : Bool) (s : State) : DropFrame s (storeRecord truncated s) := by
  unfold storeRecord; split
  · exact (writeLog_frame _ s).trans (.setDrop _ _)
  · exact .refl s

theorem writeRecord_frame (truncated : Bool) (s : State) : DropFrame s (writeRecord truncated s) :=
  (storeRecord_frame _ s).trans (PowerFrame.postIf _ _ _).toDrop

/-- After a write no record is open (R171). -/
theorem writeRecord_record (truncated : Bool) (s : State) : (writeRecord truncated s).drop.record = none := by
  unfold writeRecord storeRecord
  cases h : s.drop.record <;> simp [h]

theorem enterFalling_frame (follows : Option Nat) (s : State) : DropFrame s (enterFalling follows s) :=
  (DropFrame.setDrop _ s).trans (.post _ _)

theorem enterImpact_frame (r : OpenRecord) (v : Vec3) (s : State) : DropFrame s (enterImpact r v s) :=
  (DropFrame.setDrop _ s).trans (.post _ _)

theorem noteRun_frame (low : Bool) (time : Moment) (s : State) : DropFrame s (noteRun low time s) :=
  .ite _ (.setDrop _ s) (.setDrop _ s)

theorem calmSample_frame (x : Sample) (s : State) : DropFrame s (calmSample x s) := by
  unfold calmSample; split
  · exact (raiseProtections_frame s).trans (enterImpact_frame _ _ _)
  · exact .ite _ (((noteRun_frame _ _ s).trans (raiseProtections_frame _)).trans (enterFalling_frame _ _)) (noteRun_frame _ _ s)
  · exact noteRun_frame _ _ s

theorem endFall_frame (r : OpenRecord) (s : State) : DropFrame s (endFall r s) :=
  .ite _ (.setDrop _ s) (.ite _ (.setDrop _ s) (.refl s))

theorem fallingSample_frame (x : Sample) (r : OpenRecord) (s : State) : DropFrame s (fallingSample x r s) := by
  unfold fallingSample; split
  · exact enterImpact_frame _ _ s
  · exact (DropFrame.setDrop _ s).trans (endFall_frame _ _)
  · exact (DropFrame.setDrop _ s).trans (endFall_frame _ _)

theorem impactSample_frame (x : Sample) (r : OpenRecord) (s : State) : DropFrame s (impactSample x r s) := by
  unfold impactSample; split
  · exact .setDrop _ s
  all_goals exact .ite _ ((DropFrame.setDrop _ s).trans (.setDrop _ _)) (.setDrop _ s)

theorem endDrop_frame (s : State) : DropFrame s (endDrop s) :=
  (((writeRecord_frame _ s).trans (.setDrop _ _)).trans (releaseProtections_frame _)).trans (.post _ _)

theorem recoverSample_frame (x : Sample) (s : State) : DropFrame s (recoverSample x s) := by
  unfold recoverSample; split
  · exact (writeRecord_frame _ s).trans (enterImpact_frame _ _ _)
  · have h : ∀ b, DropFrame s (noteRun b x.time (s.setDrop { s.drop with guardCount := s.drop.guardCount + 1 })) :=
      fun b => (DropFrame.setDrop _ s).trans (noteRun_frame _ _ _)
    exact .ite _ (((h _).trans (writeRecord_frame _ _)).trans (enterFalling_frame _ _))
      (.ite _ ((h _).trans (endDrop_frame _)) (h _))

theorem sampleInState_frame (x : Sample) (s : State) : DropFrame s (sampleInState x s) := by
  unfold sampleInState; split
  · exact .refl s
  · exact calmSample_frame x s
  · exact fallingSample_frame x _ s
  · exact impactSample_frame x _ s
  · exact recoverSample_frame x s
  · exact .refl s
  · exact .refl s

theorem handleSample_frame (s : State) (x : Sample) : DropFrame s (handleSample s x) := by
  unfold handleSample; split
  · exact (DropFrame.setDrop _ s).trans (sampleInState_frame x _)
  · exact sampleInState_frame x s

theorem handleSamples_frame (xs : List Sample) (s : State) : DropFrame s (xs.foldl handleSample s) := by
  induction xs generalizing s with
  | nil => exact .refl s
  | cons x xs ih => exact (handleSample_frame s x).trans (ih _)

theorem portLeft_frame (s : State) : DropFrame s (portLeft s) :=
  .ite _ (((writeRecord_frame _ s).trans (.setDrop _ _)).trans (releaseProtections_frame _)) (.setDrop _ s)

theorem portReturned_frame (s : State) : DropFrame s (portReturned s) := .setDrop _ s

/-! ### The motion port -/

/-- What a burst that falls due does: it starts on an idle bus, and waits else (R153). -/
theorem callBurst_cases (call : BurstCall) (s : State) :
    s.motion.bus = .idle ∧ callBurst call s = startBurst call s ∨
      s.motion.bus ≠ .idle ∧
        callBurst call s = s.setMotion { s.motion with burstWaiting := some (s.motion.burstWaiting.getD call) } := by
  unfold callBurst
  cases s.motion.bus <;> simp

theorem callBurst_frame (call : BurstCall) (s : State) : MotionFrame s (callBurst call s) := by
  rcases callBurst_cases call s with ⟨-, h⟩ | ⟨-, h⟩ <;> rw [h] <;> exact .setMotion _ s

theorem nextBurst_frame (s : State) : MotionFrame s (nextBurst s) := by
  unfold nextBurst; split
  · split
    · exact (MotionFrame.setMotion _ s).trans (callBurst_frame _ _)
    · exact .ite _ (callBurst_frame _ s) (.refl s)
  · exact .refl s

theorem burstOnEntry_frame (s : State) : MotionFrame s (burstOnEntry s) := by
  unfold burstOnEntry; split
  · exact .refl s
  · exact callBurst_frame _ s
  · exact .ite _ (callBurst_frame _ s) (.refl s)

theorem leaveTo_frame (port : PortState) (s : State) : MotionFrame s (leaveTo port s) :=
  (MotionFrame.setMotion _ s).trans (portLeft_frame _).toMotion

theorem enterLost_frame (silent : Bool) (s : State) : MotionFrame s (enterLost silent s) :=
  ((PowerFrame.postIf _ _ s).toDrop.toMotion.trans (leaveTo_frame _ _)).trans (.setMotion _ _)

theorem enterStreaming_frame (s : State) : MotionFrame s (enterStreaming s) :=
  (((MotionFrame.setMotion _ s).trans (.post _ _)).trans (.setMotion _ _)).trans (burstOnEntry_frame _)

theorem beginEntry_frame (s : State) : MotionFrame s (beginEntry s) := by
  unfold beginEntry; split
  · exact .setMotion _ s
  · unfold beginTransfer; split
    · exact .setMotion _ s
    · exact .refl s
  · exact (MotionFrame.setMotion _ s).trans (enterStreaming_frame _)

theorem enterSetup_frame (byRetry : Bool) (s : State) : MotionFrame s (enterSetup byRetry s) :=
  ((leaveTo_frame _ s).trans (.setMotion _ _)).trans (beginEntry_frame _)

theorem nextEntry_frame (s : State) : MotionFrame s (nextEntry s) :=
  (MotionFrame.setMotion _ s).trans (beginEntry_frame _)

theorem beginList_frame (list : WriteList) (writes : List ListWrite) (s : State) :
    MotionFrame s (beginList list writes s) := by
  unfold beginList; split
  · exact .refl s
  · exact .setMotion _ s

theorem abortCheck_frame (s : State) : MotionFrame s (abortCheck s) :=
  .ite _ (((MotionFrame.setMotion _ s).trans (.post _ _)).trans (beginList_frame _ _ _))
    ((MotionFrame.setMotion _ s).trans (.post _ _))

theorem endCheck_frame (result : CheckResult) (s : State) : MotionFrame s (endCheck result s) :=
  ((MotionFrame.setMotion _ s).trans (.post _ _)).trans (portReturned_frame _).toMotion

theorem endMeasuring_frame (r : CheckRun) (s : State) : MotionFrame s (endMeasuring r s) := by
  unfold endMeasuring
  dsimp only
  split
  · exact (MotionFrame.setMotion _ s).trans (beginList_frame _ _ _)
  · exact (MotionFrame.setMotion _ s).trans (beginList_frame _ _ _)
  · exact endCheck_frame _ s
  · exact .refl s
  · exact .refl s

theorem checkSample_frame (x : Sample) (s : State) : MotionFrame s (checkSample x s).1 := by
  unfold checkSample
  dsimp only
  split
  · split
    · exact endMeasuring_frame _ s
    · exact .setMotion _ s
  · split <;> exact .setMotion _ s

theorem checkSamples_frame (xs : List Sample) (s : State) : MotionFrame s (checkSamples xs s) := by
  induction xs generalizing s with
  | nil => exact .refl s
  | cons x xs ih =>
    have h := checkSample_frame x s
    unfold checkSamples
    split
    · next hp => exact MotionFrame.trans (by simpa [hp] using h) (ih _)
    · next hp => simpa [hp] using h

theorem handSamples_frame (xs : List Sample) (s : State) : MotionFrame s (handSamples xs s) := by
  unfold handSamples; split
  · exact checkSamples_frame xs s
  · exact (handleSamples_frame xs s).toMotion

theorem badBurst_frame (s : State) : MotionFrame s (badBurst s) := by
  unfold badBurst
  dsimp only
  have h := MotionFrame.setMotion { s.motion with burstStatus := .bad, badCount := s.motion.badCount + 1, bus := .idle } s
  refine h.trans ?_
  split
  · exact (abortCheck_frame _).trans (enterLost_frame _ _)
  · exact (((abortCheck_frame _).trans (.setMotion _ _)).trans (portReturned_frame _).toMotion).trans (nextBurst_frame _)
  · exact enterLost_frame _ _
  · exact nextBurst_frame _

theorem completeBurst_frame (w : Nat) (time : Moment) (bytes : List Byte) (s : State) :
    MotionFrame s (completeBurst w time bytes s) :=
  ((MotionFrame.setMotion _ s).trans (handSamples_frame _ _)).trans (nextBurst_frame _)

/-- The end of a burst stays in the frame of the motion port. -/
theorem endBurst_frame (bytes : List Byte) (s : State) : MotionFrame s (endBurst bytes s) := by
  unfold endBurst; split
  · exact .ite _ (.ite _ (badBurst_frame s) (completeBurst_frame _ _ _ s)) (.refl s)
  · exact .refl s

end Sys2Proof.Machine
end

