-- ==== Sys2Proof/Laws/PerInstr.lean ====
section
/-! SUPPORT. What well-formedness says of each command of the table: a well-formed request has a TAG other than 0 and a
payload of at most 60 bytes (R3, R5). -/

namespace Sys2Proof

/-- A well-formed command that is a request has a TAG other than 0 and a payload of 0 to 60 bytes. -/
def Laws.RequestShape.Statement (i : Instr) : Prop :=
  i.wellFormed = true → ∀ r, i.request? = some r → r.tag ≠ 0 ∧ r.payload.length ≤ 60

/-- The statement of any command, from the request it carries. -/
theorem Laws.RequestShape.of_request (i : Instr) : Laws.RequestShape.Statement i := by
  intro h r hr
  have hw : r.wellFormed = true := by
    have := (Bool.and_eq_true _ _ ▸ h : _ ∧ _).1
    simpa [hr] using this
  simpa [Sys2Proof.RequestShape.wellFormed] using hw

theorem Laws.RequestShape.powerUp (vaonAbove6V : Bool) :
    Laws.RequestShape.Statement (.powerUp vaonAbove6V) := Laws.RequestShape.of_request _
theorem Laws.RequestShape.vaonRiseAbove6V :
    Laws.RequestShape.Statement (.vaonRiseAbove6V) := Laws.RequestShape.of_request _
theorem Laws.RequestShape.vaonFallTo6V :
    Laws.RequestShape.Statement (.vaonFallTo6V) := Laws.RequestShape.of_request _
theorem Laws.RequestShape.vaonQualifyExpiry :
    Laws.RequestShape.Statement (.vaonQualifyExpiry) := Laws.RequestShape.of_request _
theorem Laws.RequestShape.startupChecksEnd (logicPass memoryPass : Bool) :
    Laws.RequestShape.Statement (.startupChecksEnd logicPass memoryPass) := Laws.RequestShape.of_request _
theorem Laws.RequestShape.enterRetain :
    Laws.RequestShape.Statement (.enterRetain) := Laws.RequestShape.of_request _
theorem Laws.RequestShape.timeBaseTick :
    Laws.RequestShape.Statement (.timeBaseTick) := Laws.RequestShape.of_request _
theorem Laws.RequestShape.lrxByte (byte : Byte) (stopBit : Bool) :
    Laws.RequestShape.Statement (.lrxByte byte stopBit) := Laws.RequestShape.of_request _
theorem Laws.RequestShape.gapTimeout :
    Laws.RequestShape.Statement (.gapTimeout) := Laws.RequestShape.of_request _
theorem Laws.RequestShape.ltxFrameSent :
    Laws.RequestShape.Statement (.ltxFrameSent) := Laws.RequestShape.of_request _
theorem Laws.RequestShape.identify (tag : Byte) (payload : List Byte) :
    Laws.RequestShape.Statement (.identify tag payload) := Laws.RequestShape.of_request _
theorem Laws.RequestShape.restart (tag : Byte) (payload : List Byte) :
    Laws.RequestShape.Statement (.restart tag payload) := Laws.RequestShape.of_request _
theorem Laws.RequestShape.quiet (tag : Byte) (payload : List Byte) :
    Laws.RequestShape.Statement (.quiet tag payload) := Laws.RequestShape.of_request _
theorem Laws.RequestShape.talk (tag : Byte) (payload : List Byte) :
    Laws.RequestShape.Statement (.talk tag payload) := Laws.RequestShape.of_request _
theorem Laws.RequestShape.setSlot (tag : Byte) (payload : List Byte) :
    Laws.RequestShape.Statement (.setSlot tag payload) := Laws.RequestShape.of_request _
theorem Laws.RequestShape.getSlot (tag : Byte) (payload : List Byte) :
    Laws.RequestShape.Statement (.getSlot tag payload) := Laws.RequestShape.of_request _
theorem Laws.RequestShape.setScan (tag : Byte) (payload : List Byte) :
    Laws.RequestShape.Statement (.setScan tag payload) := Laws.RequestShape.of_request _
theorem Laws.RequestShape.readResults (tag : Byte) (payload : List Byte) :
    Laws.RequestShape.Statement (.readResults tag payload) := Laws.RequestShape.of_request _
theorem Laws.RequestShape.spotRead (tag : Byte) (payload : List Byte) :
    Laws.RequestShape.Statement (.spotRead tag payload) := Laws.RequestShape.of_request _
theorem Laws.RequestShape.spotConversionEnd (code : BitVec 12) :
    Laws.RequestShape.Statement (.spotConversionEnd code) := Laws.RequestShape.of_request _
theorem Laws.RequestShape.setTempCal (tag : Byte) (payload : List Byte) :
    Laws.RequestShape.Statement (.setTempCal tag payload) := Laws.RequestShape.of_request _
theorem Laws.RequestShape.scanPeriodExpiry :
    Laws.RequestShape.Statement (.scanPeriodExpiry) := Laws.RequestShape.of_request _
theorem Laws.RequestShape.conversionEnd (code : BitVec 12) :
    Laws.RequestShape.Statement (.conversionEnd code) := Laws.RequestShape.of_request _
theorem Laws.RequestShape.presPinChange (src : Source) (asserted : Bool) :
    Laws.RequestShape.Statement (.presPinChange src asserted) := Laws.RequestShape.of_request _
theorem Laws.RequestShape.presenceHoldExpiry (src : Source) :
    Laws.RequestShape.Statement (.presenceHoldExpiry src) := Laws.RequestShape.of_request _
theorem Laws.RequestShape.qualifyExpiry (src : Source) :
    Laws.RequestShape.Statement (.qualifyExpiry src) := Laws.RequestShape.of_request _
theorem Laws.RequestShape.standbyViolationExpiry (src : Source) :
    Laws.RequestShape.Statement (.standbyViolationExpiry src) := Laws.RequestShape.of_request _
theorem Laws.RequestShape.windowFaultExpiry (src : Source) :
    Laws.RequestShape.Statement (.windowFaultExpiry src) := Laws.RequestShape.of_request _
theorem Laws.RequestShape.faultPinAssert (line : FaultLine) :
    Laws.RequestShape.Statement (.faultPinAssert line) := Laws.RequestShape.of_request _
theorem Laws.RequestShape.goodConfirm (src : Source) :
    Laws.RequestShape.Statement (.goodConfirm src) := Laws.RequestShape.of_request _
theorem Laws.RequestShape.switchWatchExpiry (src : Source) :
    Laws.RequestShape.Statement (.switchWatchExpiry src) := Laws.RequestShape.of_request _
theorem Laws.RequestShape.latchPinChange (bay : Bay) (opened : Bool) :
    Laws.RequestShape.Statement (.latchPinChange bay opened) := Laws.RequestShape.of_request _
theorem Laws.RequestShape.latchDebounceExpiry (bay : Bay) :
    Laws.RequestShape.Statement (.latchDebounceExpiry bay) := Laws.RequestShape.of_request _
theorem Laws.RequestShape.overlapExpiry :
    Laws.RequestShape.Statement (.overlapExpiry) := Laws.RequestShape.of_request _
theorem Laws.RequestShape.lksPinChange (bay : Bay) (asserted : Bool) :
    Laws.RequestShape.Statement (.lksPinChange bay asserted) := Laws.RequestShape.of_request _
theorem Laws.RequestShape.senseDebounceExpiry (bay : Bay) :
    Laws.RequestShape.Statement (.senseDebounceExpiry bay) := Laws.RequestShape.of_request _
theorem Laws.RequestShape.lockWindowExpiry (bay : Bay) :
    Laws.RequestShape.Statement (.lockWindowExpiry bay) := Laws.RequestShape.of_request _
theorem Laws.RequestShape.setSource (tag : Byte) (payload : List Byte) :
    Laws.RequestShape.Statement (.setSource tag payload) := Laws.RequestShape.of_request _
theorem Laws.RequestShape.getSource (tag : Byte) (payload : List Byte) :
    Laws.RequestShape.Statement (.getSource tag payload) := Laws.RequestShape.of_request _
theorem Laws.RequestShape.clearFault (tag : Byte) (payload : List Byte) :
    Laws.RequestShape.Statement (.clearFault tag payload) := Laws.RequestShape.of_request _
theorem Laws.RequestShape.setPolicy (tag : Byte) (payload : List Byte) :
    Laws.RequestShape.Statement (.setPolicy tag payload) := Laws.RequestShape.of_request _
theorem Laws.RequestShape.getPower (tag : Byte) (payload : List Byte) :
    Laws.RequestShape.Statement (.getPower tag payload) := Laws.RequestShape.of_request _
theorem Laws.RequestShape.setHostLock (tag : Byte) (payload : List Byte) :
    Laws.RequestShape.Statement (.setHostLock tag payload) := Laws.RequestShape.of_request _
theorem Laws.RequestShape.getLocks (tag : Byte) (payload : List Byte) :
    Laws.RequestShape.Statement (.getLocks tag payload) := Laws.RequestShape.of_request _
theorem Laws.RequestShape.retryLock (tag : Byte) (payload : List Byte) :
    Laws.RequestShape.Statement (.retryLock tag payload) := Laws.RequestShape.of_request _
theorem Laws.RequestShape.setAmbient (tag : Byte) (payload : List Byte) :
    Laws.RequestShape.Statement (.setAmbient tag payload) := Laws.RequestShape.of_request _
theorem Laws.RequestShape.lidPinChange (asserted : Bool) :
    Laws.RequestShape.Statement (.lidPinChange asserted) := Laws.RequestShape.of_request _
theorem Laws.RequestShape.lidDebounceExpiry :
    Laws.RequestShape.Statement (.lidDebounceExpiry) := Laws.RequestShape.of_request _
theorem Laws.RequestShape.rampTick :
    Laws.RequestShape.Statement (.rampTick) := Laws.RequestShape.of_request _
theorem Laws.RequestShape.setCurve (tag : Byte) (payload : List Byte) :
    Laws.RequestShape.Statement (.setCurve tag payload) := Laws.RequestShape.of_request _
theorem Laws.RequestShape.getCurve (tag : Byte) (payload : List Byte) :
    Laws.RequestShape.Statement (.getCurve tag payload) := Laws.RequestShape.of_request _
theorem Laws.RequestShape.setBacklight (tag : Byte) (payload : List Byte) :
    Laws.RequestShape.Statement (.setBacklight tag payload) := Laws.RequestShape.of_request _
theorem Laws.RequestShape.getBacklight (tag : Byte) (payload : List Byte) :
    Laws.RequestShape.Statement (.getBacklight tag payload) := Laws.RequestShape.of_request _
theorem Laws.RequestShape.setCaps (tag : Byte) (payload : List Byte) :
    Laws.RequestShape.Statement (.setCaps tag payload) := Laws.RequestShape.of_request _
theorem Laws.RequestShape.setMotion (tag : Byte) (payload : List Byte) :
    Laws.RequestShape.Statement (.setMotion tag payload) := Laws.RequestShape.of_request _
theorem Laws.RequestShape.setSetupList (tag : Byte) (payload : List Byte) :
    Laws.RequestShape.Statement (.setSetupList tag payload) := Laws.RequestShape.of_request _
theorem Laws.RequestShape.setCheckLists (tag : Byte) (payload : List Byte) :
    Laws.RequestShape.Statement (.setCheckLists tag payload) := Laws.RequestShape.of_request _
theorem Laws.RequestShape.selfCheck (tag : Byte) (payload : List Byte) :
    Laws.RequestShape.Statement (.selfCheck tag payload) := Laws.RequestShape.of_request _
theorem Laws.RequestShape.getMotion (tag : Byte) (payload : List Byte) :
    Laws.RequestShape.Statement (.getMotion tag payload) := Laws.RequestShape.of_request _
theorem Laws.RequestShape.setupEntryEnd (readByte : Byte) :
    Laws.RequestShape.Statement (.setupEntryEnd readByte) := Laws.RequestShape.of_request _
theorem Laws.RequestShape.setupWaitExpiry :
    Laws.RequestShape.Statement (.setupWaitExpiry) := Laws.RequestShape.of_request _
theorem Laws.RequestShape.retryExpiry :
    Laws.RequestShape.Statement (.retryExpiry) := Laws.RequestShape.of_request _
theorem Laws.RequestShape.mintAssert :
    Laws.RequestShape.Statement (.mintAssert) := Laws.RequestShape.of_request _
theorem Laws.RequestShape.stallExpiry :
    Laws.RequestShape.Statement (.stallExpiry) := Laws.RequestShape.of_request _
theorem Laws.RequestShape.burstEnd (bytes : List Byte) :
    Laws.RequestShape.Statement (.burstEnd bytes) := Laws.RequestShape.of_request _
theorem Laws.RequestShape.checkListWriteEnd :
    Laws.RequestShape.Statement (.checkListWriteEnd) := Laws.RequestShape.of_request _
theorem Laws.RequestShape.readLog (tag : Byte) (payload : List Byte) :
    Laws.RequestShape.Statement (.readLog tag payload) := Laws.RequestShape.of_request _
theorem Laws.RequestShape.clearLog (tag : Byte) (payload : List Byte) :
    Laws.RequestShape.Statement (.clearLog tag payload) := Laws.RequestShape.of_request _
theorem Laws.RequestShape.allPowerLost :
    Laws.RequestShape.Statement (.allPowerLost) := Laws.RequestShape.of_request _
theorem Laws.RequestShape.retainStoreCorruption :
    Laws.RequestShape.Statement (.retainStoreCorruption) := Laws.RequestShape.of_request _
theorem Laws.RequestShape.faultPinRelease (line : FaultLine) :
    Laws.RequestShape.Statement (.faultPinRelease line) := Laws.RequestShape.of_request _
theorem Laws.RequestShape.goodRelease (src : Source) :
    Laws.RequestShape.Statement (.goodRelease src) := Laws.RequestShape.of_request _
theorem Laws.RequestShape.mintRelease :
    Laws.RequestShape.Statement (.mintRelease) := Laws.RequestShape.of_request _
theorem Laws.RequestShape.unknownKindRequest (kind tag : Byte) (payload : List Byte) :
    Laws.RequestShape.Statement (.unknownKindRequest kind tag payload) := Laws.RequestShape.of_request _

end Sys2Proof
end

