-- ==== Sys2Proof/Laws/Terms.lean ====
section
/-! SUPPORT. The terms of the statements against the shared operations: each operation leaves what the term names, so
that a proof about a statement never unfolds the operation. -/

namespace Sys2Proof.Machine

/-! ### The scanner -/

/-- Slot 0, a system slot, is the first that a cycle converts (R32, R34). -/
@[simp] theorem slotFrom_zero (c : ScanSettings) : slotFrom c 0 = some 0 := by
  simp [slotFrom, List.finRange_succ, slotRuns]

/-- A cycle goes on as `Scanner.goesOn` says (R34). -/
theorem continueCycle_eq (m : Nat) (s : State) :
    continueCycle m s = s.setScanner (s.scanner.goesOn s.scanSettings m s.timeBase) := by
  cases h : slotFrom s.scanSettings m with
  | some k => simp only [continueCycle, Scanner.goesOn, h]; rfl
  | none => cases d : s.scanner.cycleDue <;> simp [continueCycle, Scanner.goesOn, h, d, restConverter, startCycle, setConverter]

/-- What follows the end of a slot is what `Scanner.leaves` says (R34, R43). -/
theorem afterSlot_eq (n : Fin 16) (s : State) :
    afterSlot n s = s.setScanner (s.scanner.leaves s.scanSettings n s.timeBase) := by
  cases h : s.scanner.spot with
  | some q => cases d : slotFrom s.scanSettings (n.val + 1) <;> simp [afterSlot, Scanner.leaves, h, d]
  | none => simp only [afterSlot, Scanner.leaves, h, continueCycle_eq]

/-- The comparison of a result with the limits is that of R37. -/
theorem limitNext_eq_after (c : SlotSettings) (l : LimitState) (mv : Nat) : limitNext c l mv = l.after c mv := by
  cases l <;> cases hl : c.low <;> cases hh : c.high <;>
    simp [limitNext, LimitState.after, aboveHigh, belowLow, backFromHigh, backFromLow, hl, hh]
  all_goals (repeat' split) <;> first | rfl | omega

/-! ### The sources -/

/-- The change to DEGRADED leaves `SourceRun.paused` (R57, R59, R61). -/
theorem degradeSource_eq (x : Source) (s : State) : degradeSource x s = setSrc x ((s.src x).paused s.timeBase) s := rfl

/-- The change to NORMAL leaves `SourceRun.resumed` (R57). -/
theorem restoreSource_eq (x : Source) (s : State) : restoreSource x s = setSrc x ((s.src x).resumed s.timeBase) s := rfl

/-- A fault taken leaves `SourceRun.faulted` (R51, R60). -/
theorem recordAfter_fault (x : Source) (k : FaultKind) (s : State) : recordAfter x (.fault k) s = (s.src x).faulted k := by
  simp [recordAfter, SourceRun.faulted, SourceState.closed, SourceState.takesFaults, watchAfter]

/-- An absorbed dropout changes the drop detector alone, and there only the open record's GUARD_USED (R174). -/
theorem absorbedReport_eq (s : State) :
    absorbedReport s = s.setDrop { s.drop with record := s.drop.record.map fun r => { r with guardUsed := true } } := by
  cases h : s.drop.record with
  | some r => simp [absorbedReport, h]
  | none =>
    obtain ⟨_, _, _, _, _, _, _, _, _, _, _, _, _, d, _, _⟩ := s
    cases d; simp_all [absorbedReport, State.setDrop]

/-! ### The motion port -/

/-- The off-list is owed exactly while CHECKING as `offListDue` says (R160). -/
theorem owedOffList_eq (s : State) :
    s.owedOffList = if s.motion.port = .checking ∧ offListDue s.motion = true then s.settings.motion.check.offList else [] := by
  cases hp : s.motion.port <;> cases hc : s.motion.check.phase <;> simp [State.owedOffList, offListDue, hp, hc] <;>
    split <;> simp_all

/-- The abort of a check leaves the bus of `State.busLeft` (R160). -/
theorem abortCheck_bus (s : State) (h : s.motion.port = .checking) : (abortCheck s).motion.bus = s.busLeft := by
  have e := owedOffList_eq s
  have cut : s.owedOffList = [] → s.motion.bus.cut = s.busLeft := fun o => by
    unfold State.busLeft Bus.cut
    simp only [o]
    cases s.motion.bus with
    | listWrite list left => cases list <;> rfl
    | _ => rfl
  cases d : offListDue s.motion
  · simp [h, d] at e
    simp [abortCheck, d, cut e]
  · simp [h, d] at e
    cases l : s.settings.motion.check.offList with
    | nil => simp [abortCheck, d, l, beginList, State.motionSettings, cut (e.trans l)]
    | cons w ws => simp [abortCheck, State.busLeft, e, d, l, beginList, State.motionSettings]
/-! ### The backlight -/

/-- How far apart two levels are, as R130 has it. -/
theorem levelGap_eq (m n : Nat) : (levelGap m n : Int) = |(m : Int) - n| := by
  unfold levelGap
  rcases Nat.le_total m n with h | h
  · rw [abs_of_nonpos (by omega)]; omega
  · rw [abs_of_nonneg (by omega)]; omega

/-- The level of the curve with the bias, clamped (R130). -/
theorem curveTarget_eq (c : BacklightSettings) (x : Nat) :
    curveTarget c x = (max 0 (min 1000 ((curveLevel c.curve x : Int) + c.scalars.bias))).toNat := by
  unfold curveTarget clampInt
  split
  · omega
  · split <;> omega

/-- A value handed by the ambient front end leaves `Backlight.handed` (R127, R130). -/
theorem takeAmbient_backlight (value : Nat) (seed : Bool) (s : State) :
    (takeAmbient value seed s).backlight = s.backlight.handed s.settings.backlight value seed := by
  simp only [takeAmbient, actBacklight_backlight, Backlight.handed, ← curveTarget_eq]
  by_cases m : s.settings.backlight.scalars.mode = .auto
  · cases s.backlight.target with
    | none => simp [m, computeTarget]
    | some g =>
      have e : (s.settings.backlight.scalars.hysteresis : Int) ≤ |(curveTarget s.settings.backlight value : Int) - g| ↔
          s.settings.backlight.scalars.hysteresis ≤ levelGap (curveTarget s.settings.backlight value) g := by
        rw [← levelGap_eq]; omega
      simp [m, computeTarget, e]
  · simp [m]

/-- An opening lid leaves `Backlight.uncovered` (R132). -/
theorem takeLid_backlight (s : State) :
    (takeLid false s).backlight = s.backlight.uncovered s.settings.backlight := by
  simp [takeLid, Backlight.uncovered]

end Sys2Proof.Machine
end

