-- ==== Sys2Proof/Tests/Slice0.lean ====
section
/-! SUPPORT. The model's own tests: the shape checks, the manual's worked examples, the invariants right after reset, and
a state for every statement with hypotheses that meets them. -/

open Sys2Proof Sys2Proof.Machine

namespace Sys2Proof.Tests

/-! ### Shape checks -/

/-- A request with TAG 0 is no request (R5). -/
theorem test_tag_zero_refused : Instr.wellFormed (.identify 0 []) = false := by decide

/-- A payload of 61 bytes does not fit a frame (R3). -/
theorem test_long_payload_refused : Instr.wellFormed (.getSlot 1 (List.replicate 61 0)) = false := by decide

/-- A payload of 60 bytes does. -/
theorem test_full_payload_accepted : Instr.wellFormed (.getSlot 1 (List.replicate 60 0)) = true := by decide

/-- A KIND of the catalogue is not an unknown one. -/
theorem test_known_kind_refused : Instr.wellFormed (.unknownKindRequest 0x29 1 []) = false := by decide

/-- A burst is 6 bytes for each of 1 to 16 samples (R153): none, 7 and 102 bytes are no burst. -/
theorem test_burst_shapes_refused :
    Instr.wellFormed (.burstEnd []) = false ∧ Instr.wellFormed (.burstEnd (List.replicate 7 0)) = false := by decide

theorem test_long_burst_refused : Instr.wellFormed (.burstEnd (List.replicate 102 0)) = false := by decide +kernel

theorem test_burst_shape_accepted : Instr.wellFormed (.burstEnd (List.replicate 96 0)) = true := by decide +kernel

/-- No word spells a command: the table gives no row any bits. -/
theorem test_no_word_decodes : decodeTableWord 8 0 = none := by decide

/-! ### The manual's worked examples -/

/-- The IDENTIFY frame of section 1.1: 0xC3, 0x02, 0x01, 0x01, 0xC4. -/
theorem test_identify_frame : frameBytes 0x01 0x01 [] = [0xC3, 0x02, 0x01, 0x01, 0xC4] := by decide +kernel

/-- Section 2.1: code 3,010 at ÷8 is 14,701 mV, code 1,310 at ÷1 is 800 mV, REF's 1,638 is 1,000 mV. -/
theorem test_code_to_millivolts :
    millivolts 3010 .by8 = 14701 ∧ millivolts 1310 .by1 = 800 ∧ millivolts 1638 .by1 = 1000 := by decide

/-- R46: 1,160 mV with the cold calibration is 66.0 °C. -/
theorem test_panel_temperature : panelTemperature .cold .normal 1160 = some 660 := by decide

/-- R111: HIGH code 1,250 is 160,000 quarter-lux, LOW code 602 is 602. -/
theorem test_light_samples : sampleOf .high 1250 = 160000 ∧ sampleOf .low 602 = 602 := by decide

/-- R117: k 2, avg 150,000, acc 600,000 and a sample of 160,000 give acc 610,000 and avg 152,500. -/
theorem test_filter_update : updateFilter 2 ⟨600000, 150000⟩ 160000 = ⟨610000, 152500⟩ := by decide

/-- R130: the cold curve at 160,000 quarter-lux gives 920. -/
theorem test_curve_level : curveLevel BacklightSettings.cold.curve 160000 = 920 := by decide

/-- R134: 66.0, 70.0 and 74.5 °C give the thermal caps 740, 567 and 372. -/
theorem test_thermal_caps :
    thermalCapOf .cold (some 660) = 740 ∧ thermalCapOf .cold (some 700) = 567 ∧ thermalCapOf .cold (some 745) = 372 := by
  decide

/-- R138: level 740 gives duty 3,062, level 300 gives 1,313, level 1000 Dmax. -/
theorem test_duty : dutyOf .cold 740 = 3062 ∧ dutyOf .cold 300 = 1313 ∧ dutyOf .cold 1000 = 4095 := by decide

/-- R141: the point (30,000 lux, 900) travels as 30,720,900. -/
theorem test_curve_point : curvePointOf 30720900 = ⟨30000, 900⟩ := by decide

/-- R155: a count of −100 with the cold scale is −48 mg, 8,192 is 4,000 mg. -/
theorem test_counts_to_milli_g : milliG 125 (-100) = -48 ∧ milliG 125 8192 = 4000 := by decide

/-- R147: 16 ms at 800 samples per second is 13 samples, 500 ms at 1,600 is 800. -/
theorem test_sample_counts : sampleCount 16 .r800 = 13 ∧ sampleCount 500 .r1600 = 800 := by decide

/-- R153: the stall time is 60 ms with the cold values, and 23 ms with W 1 and a rate of 1,600. -/
theorem test_stall_times :
    stallTime .cold = 60 ∧ stallTime { MotionScalars.cold with w := 1, rate := .r1600 } = 23 := by decide

/-- R163: the sample (400, −300, 3,700) is high under the cold thresholds; 1 g is ordinary. -/
theorem test_sample_classes :
    classify .cold (magnitude2 ⟨400, -300, 3700⟩) = .high ∧ classify .cold (magnitude2 ⟨0, 0, 1000⟩) = .ordinary := by
  decide

/-- R172: n 288 at 800 per second gives 360 ms and 635 mm. -/
theorem test_fall_group : fallGroup 288 .r800 = ⟨360, 635⟩ := by decide

/-- R172: the peak (900, −2,100, 5,800) gives 6,233 mg on Z, and six high samples 7 ms. -/
theorem test_impact_group :
    impactGroup ⟨magnitude2 ⟨900, -2100, 5800⟩, peakAxis ⟨900, -2100, 5800⟩, 6⟩ .r800 = ⟨6233, .z, 7⟩ := by decide

/-- The worked sequence of chapter 10: record 2's peak gives 3,646 mg on Y. -/
theorem test_impact_group_leg :
    impactGroup ⟨magnitude2 ⟨-900, 3200, 1500⟩, peakAxis ⟨-900, 3200, 1500⟩, 2⟩ .r800 = ⟨3646, .y, 2⟩ := by decide

/-- A record with the groups asked for. -/
def recordOf (seq : Nat) (kind : RecordKind) (fall : Option FallGroup) (impact : Option ImpactGroup) : ShockRecord :=
  { seq := seq, time := 0, kind := kind, truncated := false, bounce := false, guardUsed := false, lockLate := false,
    long := false, condition := .full, feeding := noSources, fall := fall, impact := impact, follows := none }

/-- R183: of records of 17, 18 and 22 bytes a reply takes the first two, 35 bytes. -/
theorem test_records_packed :
    (packRecords [recordOf 41 .fallNoImpact (some ⟨1, 1⟩) none, recordOf 42 .impactOnly none (some ⟨1, .x, 1⟩),
      recordOf 43 .fallImpact (some ⟨1, 1⟩) (some ⟨1, .x, 1⟩)] logRoom 8).map ShockRecord.seq = [41, 42] := by decide

/-- R180: a write at the highest next_seq empties the log and numbers the record 1. -/
theorem test_write_wraps :
    (Store.write { Store.cold with log := [recordOf 4294967294 .fallNoImpact none none], nextSeq := 4294967295 }
      (recordOf 0 .fallNoImpact none none)).log.map ShockRecord.seq = [1] := by decide

/-- R75: the example of section 4.2, bay A kept at 14,000 mV with bay B in STANDBY at 13,200 mV, and bay B once A is drained. -/
theorem test_preferred_bay :
    Power.preferred { Power.start with src := ⟨.start, { SourceRun.start with state := .activeOn, lastVoltage := 14000 },
        { SourceRun.start with state := .standby, lastVoltage := 13200 }⟩ } .drainLower = oneSource .a ∧
    Power.preferred { Power.start with
      src := ⟨.start, { SourceRun.start with state := .activeOn, lastVoltage := 14000, drained := true },
        { SourceRun.start with state := .standby, lastVoltage := 13200 }⟩ } .drainLower = oneSource .b := by
  decide

/-! ### One step from reset -/

/-- The state after one command from a state, as it stands if the command does not go on. -/
def after (c : Instr) (s : State) : State :=
  match step { s with pending := [c] } with
  | .next t => t
  | _ => s

/-- R23: the time base wraps from 4,294,967,295 to 0. -/
theorem test_time_base_wraps : (after .timeBaseTick { State.reset with timeBase := 0xFFFFFFFF }).timeBase = 0 := by decide

/-- R10, R14: when the MOTION notice has been sent, LTX takes START, whose payload begins with key 12 and cause COLD. -/
theorem test_start_notice_follows :
    (match (after .ltxFrameSent State.reset).link.ltx with | some (.notice p) => p.take 3 | _ => []) = [12, 1, 0] := by
  decide

/-- R26: IDENTIFY from reset waits for LTX with a reply of 13 bytes that shows part 0x3140, version 2 and cause COLD. -/
theorem test_identify_reply :
    (after (.identify 1 []) State.reset).link.replies.map (·.payload) = [[0, 0x40, 0x31, 2, 0, 0, 0, 0, 0, 28, 0, 0, 0]] := by
  decide

/-- R9: SET_SCAN with a period of 1 is CLAMPED to 2. -/
theorem test_set_scan_clamps :
    (after (.setScan 1 [1, 0, 1]) State.reset).link.replies.map (·.payload) = [[1, 2, 0]] ∧
      (after (.setScan 1 [1, 0, 1]) State.reset).store.settings.scan.period = 2 := by decide

/-- R8: a KIND outside the catalogue is answered BAD_KIND, a payload too long BAD_LENGTH. -/
theorem test_bad_requests :
    (after (.unknownKindRequest 0x7F 1 []) State.reset).link.replies.map (·.payload) = [[4]] ∧
      (after (.talk 1 [0]) State.reset).link.replies.map (·.payload) = [[5]] := by decide

/-- R54: the presence pin of bay A makes a change pend, taken after 5 ms; the bay enters QUALIFY (R55). -/
theorem test_bay_attaches :
    ((after (.presenceHoldExpiry .a) { (after (.presPinChange .a true) State.reset) with timeBase := 33 }).src .a).state =
      .qualify := by decide

/-- R153: a MINT assertion starts a burst with the cold W and data address. -/
theorem test_burst_starts : (after .mintAssert State.reset).motion.bus = .burst 8 0xB0 28 := by decide

/-- R153: the stall timer of 60 ms takes the port to LOST, with the retry timer started. -/
theorem test_stall_loses :
    (after .stallExpiry { State.reset with timeBase := 88 }).motion.port = .lost ∧
      (after .stallExpiry { State.reset with timeBase := 88 }).motion.retry = some 88 := by decide

/-- R98, R99: SET_HOST_LOCK on bay B drives LOCK_B, and the lock engages. -/
theorem test_host_lock_engages :
    (after (.setHostLock 1 [4, 1]) State.reset).locks.b.drive = true ∧
      (after (.setHostLock 1 [4, 1]) State.reset).locks.b.state = .engaging 28 := by decide

/-- R72, R79: under SHARE, bay A joining and bay B in STANDBY, an evaluation neither leaves A nor joins B (log 48). -/
theorem test_second_join_waits :
    let s : State := { State.reset with
      store := { Store.cold with settings := { Settings.cold with power := { PowerSettings.cold with policy := .share } } }
      power := { Power.start with
        joining := some .a
        src := ⟨.start, { SourceRun.start with state := .activeClosing, switch := true, goodWatch := some 28 },
          { SourceRun.start with state := .standby }⟩ } }
    (evaluateStep false false s).1.power = s.power ∧ (evaluateStep false false s).2 = none := by decide

/-! ### Invariants right after reset -/

theorem test_reset_log : LogWf State.reset.store := by decide
theorem test_reset_settings : SettingsWf State.reset.store.settings :=
  ⟨by decide, by decide, by decide, by decide, by decide⟩
theorem test_reset_scanner : ScannerWf State.reset.scanner := by decide
theorem test_reset_link : LinkWf State.reset ∧ WakeWf State.reset := by decide
theorem test_reset_power : PowerWf State.reset := by decide
theorem test_reset_locks : LockWf State.reset.locks.a ∧ LockWf State.reset.locks.b := by decide
theorem test_reset_backlight : BacklightWf State.reset := by decide
theorem test_reset_motion : MotionWf State.reset ∧ DropWf State.reset := by decide

/-! ### A state for every statement with hypotheses -/

theorem test_meets_ColdStartGivesReset : ∃ (s : State),
    (s.supply = .unpowered) ∧
    (s.pins = .released) ∧
    (s.freeCount = 0) ∧
    (s.pending = []) :=
  ⟨{ State.reset with supply := .unpowered, freeCount := 0 }, by decide, by decide, by decide, by decide⟩

theorem test_meets_SuppliesMove_timeBaseCounts : ∃ (s : State) (_ : Bool) (_ : Option Moment) (_ : Moment),
    (s.supply ≠ .unpowered) :=
  ⟨State.reset, true, none, 0, by decide⟩

theorem test_meets_SuppliesMove_timeBaseCounts_wrap : ∃ (s : State) (_ : Bool) (_ : Option Moment) (_ : Moment),
    (s.supply ≠ .unpowered) ∧
    (s.timeBase.toNat = 4294967295) :=
  ⟨{ State.reset with timeBase := 4294967295 }, true, none, 0, by decide, by decide⟩

theorem test_meets_EnterRetainStops : ∃ (s : State),
    (s.supply = .run) :=
  ⟨State.reset, by decide⟩

theorem test_meets_EnterRetainStops_open : ∃ (s : State),
    (s.supply = .run) ∧
    (s.drop.record.isSome = true) :=
  ⟨{ State.reset with drop := { Drop.start with state := .falling, record := some (newRecord none 5 none State.reset) } }, by decide, by decide⟩

theorem test_meets_StartCompletes : ∃ (s : State) (since : Moment) (_ : Bool) (_ : Bool),
    (s.supply = .checks since) ∧
    (8 ≤ (s.timeBase - since).toNat) :=
  ⟨{ State.reset with supply := .checks 20 }, 20, true, true, by decide, by decide⟩

theorem test_meets_RequestedStart : ∃ (s : State) (r : Reply) (opt : RestartOption) (_ : Bay) (_ : Filter),
    (s.supply = .run) ∧
    (s.link.ltx = some (.reply r)) ∧
    (r.busy = false) ∧
    (s.link.restart = some opt) :=
  ⟨{ State.reset with link := { State.reset.link with ltx := some (.reply (replyTo 2 7 [0])), replies := [replyTo 2 7 [0]], queue := [{ kind := 2, tag := 7, payload := [1], served := true }], restart := some .defaults } }, replyTo 2 7 [0], .defaults, .a, ⟨0, 0⟩, by decide, by decide, by decide, by decide⟩

theorem test_meets_RequestedStart_sole : ∃ (s : State) (r : Reply) (opt : RestartOption) (y : Bay) (_ : Filter),
    (s.supply = .run) ∧
    (s.link.ltx = some (.reply r)) ∧
    (r.busy = false) ∧
    (s.link.restart = some opt) ∧
    (opt = .defaults) ∧
    (s.drop.state.inDrop = true) ∧
    (s.store.settings.power.lockSole = false) ∧
    ((s.locks.get y).reasons = ⟨false, false, true, false⟩) ∧
    ((s.locks.get y).state = .locked) ∧
    ((s.locks.get y).sense = true) ∧
    (s.power.transfer = none) ∧
    (s.power.joining = none) ∧
    ((s.src (baySource y)).state = .activeOn) ∧
    (∀ x ∈ allSources, (x ≠ baySource y → (s.src x).state = .absent) ∧ (s.src x).pendingPresence = none ∧ (s.src x).violation = .stopped) ∧
    (s.store.settings.power = { PowerSettings.cold with lockSole := false }) :=
  ⟨{ State.reset with store := Store.withWord { Store.cold with settings := { Settings.cold with power := { PowerSettings.cold with lockSole := false } } }, locks := ⟨{ BayLock.start with reasons := ⟨false, false, true, false⟩, drive := true, state := .locked, sense := true }, BayLock.start⟩, power := { Power.start with condition := .single, src := ⟨.start, { SourceRun.start with state := .activeOn, presence := true, switch := true }, .start⟩ }, drop := { Drop.start with state := .recover, contactGuard := true, park := true }, link := { State.reset.link with ltx := some (.reply (replyTo 2 7 [0])), replies := [replyTo 2 7 [0]], queue := [{ kind := 2, tag := 7, payload := [1], served := true }], restart := some .defaults } }, replyTo 2 7 [0], .defaults, .a, ⟨0, 0⟩, by decide, by decide, by decide, by decide, by decide, by decide, by decide, by decide, by decide⟩

theorem test_meets_RequestedStart_handover : ∃ (s : State) (r : Reply) (opt : RestartOption) (_ : Bay) (f : Filter),
    (s.supply = .run) ∧
    (s.link.ltx = some (.reply r)) ∧
    (r.busy = false) ∧
    (s.link.restart = some opt) ∧
    (opt = .defaults) ∧
    (s.ambient.filter = some f) ∧
    (s.ambient.lidClosed = false) ∧
    (s.store.settings.ambient.k ≠ AmbientSettings.cold.k) ∧
    (s.backlight.lidClosed = false) ∧
    (s.backlight.binding = false) ∧
    (min (BacklightSettings.cold.caps.entry s.backlight.condition) (thermalCapOf BacklightSettings.cold.scalars s.backlight.temperature) < curveLevel BacklightSettings.cold.curve f.avg) :=
  ⟨{ State.reset with store := Store.withWord { Store.cold with settings := { Settings.cold with ambient := { AmbientSettings.cold with k := 5 } } }, ambient := { Ambient.start with filter := some ⟨1281792, 40056⟩, validity := .valid, seedPending := false }, link := { State.reset.link with ltx := some (.reply (replyTo 2 7 [0])), replies := [replyTo 2 7 [0]], queue := [{ kind := 2, tag := 7, payload := [1], served := true }], restart := some .defaults } }, replyTo 2 7 [0], .defaults, .a, ⟨1281792, 40056⟩, by decide, by decide, by decide, by decide, by decide, by decide, by decide, by decide, by decide⟩

theorem test_meets_RequestedStart_owed : ∃ (s : State) (r : Reply) (opt : RestartOption) (_ : Bay) (_ : Filter),
    (s.supply = .run) ∧
    (s.link.ltx = some (.reply r)) ∧
    (r.busy = false) ∧
    (s.link.restart = some opt) ∧
    (s.motion.port = .checking) ∧
    (s.motion.check.phase = .on) ∧
    (s.store.settings.motion.check.offList ≠ []) :=
  ⟨{ State.reset with store := Store.withWord { Store.cold with settings := { Settings.cold with motion := { MotionSettings.cold with check := { MotionSettings.cold.check with offList := [⟨1, 2⟩] } } } }, motion := { State.reset.motion with port := .checking, check := { CheckRun.start with phase := .on } }, link := { State.reset.link with ltx := some (.reply (replyTo 2 7 [0])), replies := [replyTo 2 7 [0]], queue := [{ kind := 2, tag := 7, payload := [1], served := true }], restart := some .defaults } }, replyTo 2 7 [0], .defaults, .a, ⟨0, 0⟩, by decide, by decide, by decide, by decide, by decide, by decide, by decide⟩

theorem test_meets_RequestedStart_record : ∃ (s : State) (r : Reply) (opt : RestartOption) (_ : Bay) (_ : Filter),
    (s.supply = .run) ∧
    (s.link.ltx = some (.reply r)) ∧
    (r.busy = false) ∧
    (s.link.restart = some opt) ∧
    (s.drop.record.isSome = true) :=
  ⟨{ State.reset with drop := { Drop.start with state := .recover, contactGuard := true, park := true, record := some (newRecord (some .fallNoImpact) 5 none State.reset) }, link := { State.reset.link with ltx := some (.reply (replyTo 2 7 [0])), replies := [replyTo 2 7 [0]], queue := [{ kind := 2, tag := 7, payload := [0], served := true }], restart := some .keep } }, replyTo 2 7 [0], .keep, .a, ⟨0, 0⟩, by decide, by decide, by decide, by decide, by decide⟩

theorem test_meets_RequestedStart_keep : ∃ (s : State) (r : Reply) (opt : RestartOption) (_ : Bay) (_ : Filter),
    (s.supply = .run) ∧
    (s.link.ltx = some (.reply r)) ∧
    (r.busy = false) ∧
    (s.link.restart = some opt) ∧
    (s.drop.state.inDrop = false) ∧
    (s.drop.record = none) :=
  ⟨{ State.reset with link := { State.reset.link with ltx := some (.reply (replyTo 2 7 [0])), replies := [replyTo 2 7 [0]], queue := [{ kind := 2, tag := 7, payload := [0], served := true }], restart := some .keep } }, replyTo 2 7 [0], .keep, .a, ⟨0, 0⟩, by decide, by decide, by decide, by decide, by decide, by decide⟩

theorem test_meets_LtxChooses_ltxChooses : ∃ (s : State) (n : List Byte) (_ : Reply) (_ : List Reply) (_ : Entry) (_ : List Entry) (_ : List Entry),
    (s.supply = .run) ∧
    (s.link.ltx = some (.notice n)) :=
  ⟨{ State.reset with link := { State.reset.link with notices := [] } }, [8, 2, 0, 2, 0, 0, 0, 0, 0, 0, 0, 0, 0, 0, 0, 0, 0, 0, 0, 0, 0, 0, 0, 0, 0, 0, 1, 0, 0, 0], replyTo 1 7 [0], [], ⟨.lock, 1, 0⟩, [], [], by decide, by decide⟩

theorem test_meets_LtxChooses_ltxChooses_notice : ∃ (s : State) (n : List Byte) (_ : Reply) (_ : List Reply) (e : Entry) (early : List Entry) (late : List Entry),
    (s.supply = .run) ∧
    (s.link.ltx = some (.notice n)) ∧
    (s.link.replies = []) ∧
    (s.link.mode = .talk) ∧
    (s.link.notices = early ++ e :: late) ∧
    ((∀ d ∈ early, d.key.cls.rank < e.key.cls.rank)) ∧
    ((∀ d ∈ late, d.key.cls.rank ≤ e.key.cls.rank)) :=
  ⟨{ State.reset with link := { State.reset.link with ltx := some (.notice []), notices := [⟨.start, 1, 0⟩, ⟨.lock, 1, 0⟩, ⟨.limit, 1, 1⟩] } }, [], replyTo 1 7 [0], [], ⟨.lock, 1, 0⟩, [⟨.start, 1, 0⟩], [⟨.limit, 1, 1⟩], by decide, by decide, by decide, by decide, by decide, by decide, by decide⟩

theorem test_meets_LtxChooses_ltxChooses_reply : ∃ (s : State) (n : List Byte) (r : Reply) (rest : List Reply) (_ : Entry) (_ : List Entry) (_ : List Entry),
    (s.supply = .run) ∧
    (s.link.ltx = some (.notice n)) ∧
    (s.link.replies = r :: rest) :=
  ⟨{ State.reset with link := { State.reset.link with ltx := some (.notice []), replies := [replyTo 1 7 [0]] } }, [], replyTo 1 7 [0], [], ⟨.lock, 1, 0⟩, [], [], by decide, by decide, by decide⟩

theorem test_meets_LtxChooses_replySent : ∃ (s : State) (_ : List Byte) (r : Reply) (rest : List Reply) (_ : Entry) (_ : List Entry) (_ : List Entry),
    (s.supply = .run) ∧
    (s.link.ltx = some (.reply r)) ∧
    (s.link.replies = r :: rest) ∧
    (s.link.restart = none ∨ r.busy = true) :=
  ⟨{ State.reset with link := { State.reset.link with ltx := some (.reply (replyTo 2 7 [0])), replies := [replyTo 2 7 [0], replyTo 1 8 [3]] } }, [], replyTo 2 7 [0], [replyTo 1 8 [3]], ⟨.lock, 1, 0⟩, [], [], by decide, by decide, by decide, by decide⟩

theorem test_meets_LtxChooses_replySent_busyHeld : ∃ (s : State) (_ : List Byte) (r : Reply) (rest : List Reply) (_ : Entry) (_ : List Entry) (_ : List Entry),
    (s.supply = .run) ∧
    (s.link.ltx = some (.reply r)) ∧
    (s.link.replies = r :: rest) ∧
    (s.link.restart = none ∨ r.busy = true) ∧
    (s.link.restart = some .keep) ∧
    (rest ≠ []) :=
  ⟨{ State.reset with link := { State.reset.link with restart := some .keep, ltx := some (.reply { replyTo 1 8 [3] with busy := true }), replies := [{ replyTo 1 8 [3] with busy := true }, replyTo 2 7 [0]], queue := [{ kind := 2, tag := 7, payload := [0], served := true }] } }, [], { replyTo 1 8 [3] with busy := true }, [replyTo 2 7 [0]], ⟨.lock, 1, 0⟩, [], [], by decide, by decide, by decide, by decide, by decide, by decide⟩

theorem test_meets_LtxChooses_replySent_lastNotice : ∃ (s : State) (_ : List Byte) (r : Reply) (rest : List Reply) (e : Entry) (early : List Entry) (late : List Entry),
    (s.supply = .run) ∧
    (s.link.ltx = some (.reply r)) ∧
    (s.link.replies = r :: rest) ∧
    (s.link.restart = none ∨ r.busy = true) ∧
    (rest = []) ∧
    (s.link.mode = .talk) ∧
    (s.link.notices = early ++ e :: late) ∧
    ((∀ d ∈ early, d.key.cls.rank < e.key.cls.rank)) ∧
    ((∀ d ∈ late, d.key.cls.rank ≤ e.key.cls.rank)) :=
  ⟨{ State.reset with link := { State.reset.link with notices := [⟨.start, 1, 0⟩, ⟨.lock, 1, 0⟩, ⟨.limit, 1, 1⟩], ltx := some (.reply (replyTo 2 7 [0])), replies := [replyTo 2 7 [0]] } }, [], replyTo 2 7 [0], [], ⟨.lock, 1, 0⟩, [⟨.start, 1, 0⟩], [⟨.limit, 1, 1⟩], by decide, by decide, by decide, by decide, by decide, by decide, by decide, by decide, by decide⟩

theorem test_meets_LtxChooses_replySent_last : ∃ (s : State) (_ : List Byte) (r : Reply) (rest : List Reply) (_ : Entry) (_ : List Entry) (_ : List Entry),
    (s.supply = .run) ∧
    (s.link.ltx = some (.reply r)) ∧
    (s.link.replies = r :: rest) ∧
    (s.link.restart = none ∨ r.busy = true) ∧
    (rest = []) ∧
    (s.link.mode = .quiet) :=
  ⟨{ State.reset with link := { State.reset.link with mode := .quiet, ltx := some (.reply (replyTo 2 7 [0])), replies := [replyTo 2 7 [0]] } }, [], replyTo 2 7 [0], [], ⟨.lock, 1, 0⟩, [], [], by decide, by decide, by decide, by decide, by decide, by decide⟩

theorem test_meets_FrameReceived : ∃ (s : State) (_ : Byte) (_ : Byte) (p : List Byte),
    (s.supply = .run) ∧
    (s.link.rx = .hunt) ∧
    ((s.link.ltx.isSome = true ∨ (s.link.replies = [] ∧ (s.link.mode = .quiet ∨ s.link.notices = [])))) ∧
    (p.length ≤ 60) :=
  ⟨State.reset, 0x28, 7, [6, 1], by decide, by decide, by decide, by decide⟩

theorem test_meets_FrameReceived_tag0 : ∃ (s : State) (_ : Byte) (tag : Byte) (p : List Byte),
    (s.supply = .run) ∧
    (s.link.rx = .hunt) ∧
    ((s.link.ltx.isSome = true ∨ (s.link.replies = [] ∧ (s.link.mode = .quiet ∨ s.link.notices = [])))) ∧
    (p.length ≤ 60) ∧
    (tag = 0) :=
  ⟨State.reset, 1, 0, [], by decide, by decide, by decide, by decide, by decide⟩

theorem test_meets_FrameReceived_idle : ∃ (s : State) (_ : Byte) (tag : Byte) (p : List Byte),
    (s.supply = .run) ∧
    (s.link.rx = .hunt) ∧
    ((s.link.ltx.isSome = true ∨ (s.link.replies = [] ∧ (s.link.mode = .quiet ∨ s.link.notices = [])))) ∧
    (p.length ≤ 60) ∧
    (s.link.ltx = none) ∧
    (tag ≠ 0) ∧
    (2 ≤ s.link.queue.length) ∧
    (busyCount s.link.replies < 3) :=
  ⟨{ State.reset with link := { State.reset.link with notices := [], ltx := none, queue := [⟨0x14, 7, [0, 0], true⟩, ⟨1, 8, [], false⟩] } }, 0x28, 9, [6, 1], by decide, by decide, by decide, by decide, by decide, by decide, by decide, by decide⟩

theorem test_meets_FrameReceived_dropped : ∃ (s : State) (_ : Byte) (_ : Byte) (p : List Byte),
    (s.supply = .run) ∧
    (s.link.rx = .hunt) ∧
    ((s.link.ltx.isSome = true ∨ (s.link.replies = [] ∧ (s.link.mode = .quiet ∨ s.link.notices = [])))) ∧
    (p.length ≤ 60) ∧
    (2 ≤ s.link.queue.length) ∧
    (busyCount s.link.replies = 3) :=
  ⟨{ State.reset with link := { State.reset.link with queue := [⟨0x14, 7, [0, 0], true⟩, ⟨1, 8, [], false⟩], replies := [⟨0x81, 3, [3], true⟩, ⟨0x81, 4, [3], true⟩, ⟨0x81, 5, [3], true⟩] } }, 0x28, 9, [6, 1], by decide, by decide, by decide, by decide, by decide, by decide⟩

theorem test_meets_ReceiverFaults : ∃ (s : State) (_ : Byte) (_ : Moment) (_ : Byte) (_ : List Byte),
    (s.supply = .run) :=
  ⟨State.reset, 1, 0, 2, [], by decide⟩

theorem test_meets_ReceiverFaults_length : ∃ (s : State) (byte : Byte) (since : Moment) (_ : Byte) (_ : List Byte),
    (s.supply = .run) ∧
    (s.link.rx = .header since) ∧
    (byte.toNat < 2 ∨ 62 < byte.toNat) :=
  ⟨{ State.reset with link := { State.reset.link with rx := .header 5 } }, 63, 5, 2, [], by decide, by decide, by decide⟩

theorem test_meets_ReceiverFaults_crc : ∃ (s : State) (byte : Byte) (since : Moment) (len : Byte) (got : List Byte),
    (s.supply = .run) ∧
    (s.link.rx = .body since len got) ∧
    (got.length = len.toNat) ∧
    (crc8 (len :: got) ≠ byte) :=
  ⟨{ State.reset with link := { State.reset.link with rx := .body 5 2 [1, 1] } }, 0xC5, 5, 2, [1, 1], by decide, by decide, by decide, by decide +kernel⟩

theorem test_meets_ReceiverFaults_gap : ∃ (s : State) (_ : Byte) (since : Moment) (len : Byte) (got : List Byte),
    (s.supply = .run) ∧
    (s.link.rx = .header since ∨ s.link.rx = .body since len got) ∧
    (2 ≤ (s.timeBase - since).toNat) :=
  ⟨{ State.reset with link := { State.reset.link with rx := .header 26 } }, 0, 26, 2, [], by decide, by decide, by decide⟩

theorem test_meets_PostKeepsPlace : ∃ (c : Cause) (early : List Entry) (_ : Entry) (_ : List Entry),
    (∀ d ∈ early, d.key ≠ c.key) :=
  ⟨.lockJammed, [⟨.start, 1, 0⟩], ⟨.lock, 1, 0⟩, [⟨.limit, 1, 1⟩], by decide⟩

theorem test_meets_LinkRequests_identifyAnswers : ∃ (s : State) (tag : Byte) (_ : List Byte),
    (Ready 0x01 tag [] s) :=
  ⟨State.reset, 7, [], by decide⟩

theorem test_meets_BadRequestsRefused_badKindAndBadLength : ∃ (s : State) (c : Instr) (kind : Byte) (r : RequestShape) (_ : Fin 16),
    (kindOf c = some kind) ∧
    (c.request? = some r) ∧
    (Ready kind r.tag r.payload s) :=
  ⟨State.reset, .unknownKindRequest 0x05 7 [], 0x05, ⟨7, []⟩, 0, by decide, by decide, by decide⟩

theorem test_meets_BadRequestsRefused_badKindAndBadLength_length : ∃ (s : State) (c : Instr) (kind : Byte) (r : RequestShape) (_ : Fin 16),
    (kindOf c = some kind) ∧
    (c.request? = some r) ∧
    (Ready kind r.tag r.payload s) ∧
    (catalogue.contains kind = true) ∧
    (requestLength kind r.payload ≠ some r.payload.length) :=
  ⟨State.reset, .setCurve 7 [2, 0, 0, 0, 0], 0x31, ⟨7, [2, 0, 0, 0, 0]⟩, 0, by decide, by decide, by decide, by decide, by decide⟩

theorem test_meets_BadRequestsRefused_badKindAndBadLength_kind : ∃ (s : State) (c : Instr) (kind : Byte) (r : RequestShape) (_ : Fin 16),
    (kindOf c = some kind) ∧
    (c.request? = some r) ∧
    (Ready kind r.tag r.payload s) ∧
    (catalogue.contains kind = false) :=
  ⟨State.reset, .unknownKindRequest 0x90 7 [1], 0x90, ⟨7, [1]⟩, 0, by decide, by decide, by decide, by decide⟩

theorem test_meets_BadRequestsRefused_badValueRefused_fixed : ∃ (s : State) (c : Instr) (kind : Byte) (r : RequestShape) (n : Fin 16),
    (kindOf c = some kind) ∧
    (c.request? = some r) ∧
    (Ready kind r.tag r.payload s) ∧
    (requestLength kind r.payload = some r.payload.length) ∧
    (kind = 0x10) ∧
    (n.val < 8) ∧
    (u8 r.payload 0 = n.val) ∧
    ((u8 r.payload 1 ≠ 1 ∨ u8 r.payload 2 ≠ ScanSettings.cold.slots[n].input.code ∨
            u8 r.payload 3 ≠ ScanSettings.cold.slots[n].divider.code ∨
            u8 r.payload 4 ≠ ScanSettings.cold.slots[n].kind.code ∨
            (u8 r.payload 4 = 1 ∧ u8 r.payload 5 ≠ ScanSettings.cold.slots[n].kind.averageByte))) :=
  ⟨State.reset, .setSlot 7 [3, 1, 3, 0, 1, 2, 4, 8, 0, 0, 0, 0, 0, 0, 0, 0], 0x10, ⟨7, [3, 1, 3, 0, 1, 2, 4, 8, 0, 0, 0, 0, 0, 0, 0, 0]⟩, 3, by decide, by decide, by decide, by decide, by decide, by decide, by decide, by decide⟩

theorem test_meets_BadRequestsRefused_badValueRefused_value : ∃ (s : State) (c : Instr) (kind : Byte) (r : RequestShape) (_ : Fin 16),
    (kindOf c = some kind) ∧
    (c.request? = some r) ∧
    (Ready kind r.tag r.payload s) ∧
    (requestLength kind r.payload = some r.payload.length) ∧
    (malformed kind r.payload = true) :=
  ⟨State.reset, .clearFault 7 [8], 0x22, ⟨7, [8]⟩, 0, by decide, by decide, by decide, by decide, by decide⟩

theorem test_meets_RequestQueueing : ∃ (s : State) (c : Instr) (kind : Byte) (r : RequestShape),
    (kindOf c = some kind) ∧
    (c.request? = some r) ∧
    (s.supply = .run) ∧
    (s.link.queue ≠ []) ∧
    (s.link.queue.head? ≠ some { kind := kind, tag := r.tag, payload := r.payload, served := false }) :=
  ⟨{ State.reset with link := { State.reset.link with queue := [⟨1, 7, [], true⟩] } }, .getPower 8 [], 0x24, ⟨8, []⟩, by decide, by decide, by decide, by decide, by decide⟩

theorem test_meets_RequestQueueing_busy : ∃ (s : State) (c : Instr) (kind : Byte) (r : RequestShape),
    (kindOf c = some kind) ∧
    (c.request? = some r) ∧
    (s.supply = .run) ∧
    (s.link.queue ≠ []) ∧
    (s.link.queue.head? ≠ some { kind := kind, tag := r.tag, payload := r.payload, served := false }) ∧
    (2 ≤ s.link.queue.length) ∧
    (busyCount s.link.replies < 3) :=
  ⟨{ State.reset with link := { State.reset.link with queue := [⟨1, 7, [], true⟩, ⟨1, 8, [], false⟩] } }, .getPower 9 [], 0x24, ⟨9, []⟩, by decide, by decide, by decide, by decide, by decide, by decide, by decide⟩

theorem test_meets_RequestQueueing_full : ∃ (s : State) (c : Instr) (kind : Byte) (r : RequestShape),
    (kindOf c = some kind) ∧
    (c.request? = some r) ∧
    (s.supply = .run) ∧
    (s.link.queue ≠ []) ∧
    (s.link.queue.head? ≠ some { kind := kind, tag := r.tag, payload := r.payload, served := false }) ∧
    (2 ≤ s.link.queue.length) ∧
    (busyCount s.link.replies = 3) ∧
    (r.tag ≠ 0) :=
  ⟨{ State.reset with link := { State.reset.link with queue := [⟨1, 7, [], true⟩, ⟨1, 8, [], false⟩], replies := [⟨0x81, 3, [3], true⟩, ⟨0x81, 4, [3], true⟩, ⟨0x81, 5, [3], true⟩] } }, .getPower 9 [], 0x24, ⟨9, []⟩, by decide, by decide, by decide, by decide, by decide, by decide, by decide, by decide⟩

theorem test_meets_RequestQueueing_tag0 : ∃ (s : State) (c : Instr) (kind : Byte) (r : RequestShape),
    (kindOf c = some kind) ∧
    (c.request? = some r) ∧
    (s.supply = .run) ∧
    (s.link.queue ≠ []) ∧
    (s.link.queue.head? ≠ some { kind := kind, tag := r.tag, payload := r.payload, served := false }) ∧
    (r.tag = 0) :=
  ⟨{ State.reset with link := { State.reset.link with queue := [⟨1, 7, [], true⟩] } }, .getPower 0 [], 0x24, ⟨0, []⟩, by decide, by decide, by decide, by decide, by decide, by decide⟩

theorem test_meets_SetSlotStores : ∃ (s : State) (tag : Byte) (p : List Byte) (n : Fin 16) (input : Input) (divider : Divider) (kind : ConvKind),
    (Ready 0x10 tag p s) ∧
    (p.length = 16) ∧
    (u8 p 0 = n.val) ∧
    (u8 p 1 ≤ 1) ∧
    (u8 p 2 = input.code) ∧
    (u8 p 3 = divider.code) ∧
    (u8 p 4 = kind.code) ∧
    (kind.code = 1 → u8 p 5 = kind.averageByte) ∧
    (u8 p 8 ≤ 1) ∧
    (u8 p 11 ≤ 1) ∧
    (n.val < 8 → u8 p 1 = 1 ∧ ScanSettings.cold.slots[n].input = input ∧ ScanSettings.cold.slots[n].divider = divider ∧
      ScanSettings.cold.slots[n].kind = kind) :=
  ⟨State.reset, 7, [8, 1, 8, 0, 1, 4, 0, 8, 1, 100, 0, 1, 50, 0, 0, 0], 8, .ain 8, .by1, .average .four, by decide, by decide, by decide, by decide, by decide, by decide, by decide, by decide, by decide⟩

theorem test_meets_SetSlotStores_system : ∃ (s : State) (tag : Byte) (p : List Byte) (n : Fin 16) (input : Input) (divider : Divider) (kind : ConvKind),
    (Ready 0x10 tag p s) ∧
    (p.length = 16) ∧
    (u8 p 0 = n.val) ∧
    (u8 p 1 ≤ 1) ∧
    (u8 p 2 = input.code) ∧
    (u8 p 3 = divider.code) ∧
    (u8 p 4 = kind.code) ∧
    (kind.code = 1 → u8 p 5 = kind.averageByte) ∧
    (u8 p 8 ≤ 1) ∧
    (u8 p 11 ≤ 1) ∧
    (n.val < 8 → u8 p 1 = 1 ∧ ScanSettings.cold.slots[n].input = input ∧ ScanSettings.cold.slots[n].divider = divider ∧
      ScanSettings.cold.slots[n].kind = kind) ∧
    (n.val = 0) :=
  ⟨State.reset, 7, [0, 1, 0, 3, 0, 0, 4, 8, 0, 0, 0, 1, 255, 255, 255, 255], 0, .ain 0, .by8, .single, by decide, by decide, by decide, by decide, by decide, by decide, by decide, by decide, by decide⟩

theorem test_meets_SetSlotStores_abandoned : ∃ (s : State) (tag : Byte) (p : List Byte) (n : Fin 16) (input : Input) (divider : Divider) (kind : ConvKind),
    (Ready 0x10 tag p s) ∧
    (p.length = 16) ∧
    (u8 p 0 = n.val) ∧
    (u8 p 1 ≤ 1) ∧
    (u8 p 2 = input.code) ∧
    (u8 p 3 = divider.code) ∧
    (u8 p 4 = kind.code) ∧
    (kind.code = 1 → u8 p 5 = kind.averageByte) ∧
    (u8 p 8 ≤ 1) ∧
    (u8 p 11 ≤ 1) ∧
    (n.val < 8 → u8 p 1 = 1 ∧ ScanSettings.cold.slots[n].input = input ∧ ScanSettings.cold.slots[n].divider = divider ∧
      ScanSettings.cold.slots[n].kind = kind) ∧
    (s.scanner.conv = .slot n s.scanner.conv.codes) :=
  ⟨{ State.reset with scanner := { Scanner.start with conv := .slot 8 [1638], spot := some ⟨.ref, .by1⟩ } }, 7, [8, 1, 8, 0, 2, 0, 5, 8, 0, 0, 0, 0, 0, 0, 0, 0], 8, .ain 8, .by1, .settle, by decide, by decide, by decide, by decide, by decide, by decide, by decide, by decide, by decide⟩

theorem test_meets_ReportsChangeNothing_getSlotReads_good : ∃ (s : State) (tag : Byte) (n : Fin 16) (_ : Byte),
    (Ready 0x11 tag [BitVec.ofNat 8 n.val] s) :=
  ⟨State.reset, 7, 15, 0, by decide⟩

theorem test_meets_ReportsChangeNothing_getSlotReads_bad : ∃ (s : State) (tag : Byte) (_ : Fin 16) (k : Byte),
    (Ready 0x11 tag [k] s) ∧
    (15 < k.toNat) :=
  ⟨State.reset, 7, 0, 16, by decide, by decide⟩

theorem test_meets_ReportsChangeNothing_getLocksReports : ∃ (s : State) (tag : Byte) (_ : Fin 16) (_ : Byte),
    (Ready 0x29 tag [] s) :=
  ⟨State.reset, 7, 0, 0, by decide⟩

theorem test_meets_ReportsChangeNothing_getCurveReports : ∃ (s : State) (tag : Byte) (_ : Fin 16) (_ : Byte),
    (Ready 0x32 tag [] s) :=
  ⟨State.reset, 7, 0, 0, by decide⟩

theorem test_meets_ScanRequests_scan : ∃ (s : State) (tag : Byte) (p : List Byte) (_ : Fin 16) (_ : List Nat),
    (Ready 0x12 tag p s) ∧
    (p.length = 3) ∧
    (u8 p 2 ≤ 1) ∧
    ((u8 p 2 = 1 ∨ ∀ m ∈ List.finRange 16, 8 ≤ m.val → s.scanner.conv ≠ .slot m s.scanner.conv.codes)) :=
  ⟨State.reset, 7, [101, 0, 0], 8, [], by decide, by decide, by decide, by decide⟩

theorem test_meets_ScanRequests_abandon : ∃ (s : State) (tag : Byte) (p : List Byte) (n : Fin 16) (codes : List Nat),
    (Ready 0x12 tag p s) ∧
    (p.length = 3) ∧
    (u8 p 2 = 0) ∧
    (s.scanner.conv = .slot n codes) ∧
    (8 ≤ n.val) :=
  ⟨{ State.reset with scanner := { Scanner.start with conv := .slot 8 [], cycleDue := true } }, 7, [1, 0, 0], 8, [], by decide, by decide, by decide, by decide, by decide⟩

theorem test_meets_ScanRequests_calibration : ∃ (s : State) (tag : Byte) (p : List Byte) (_ : Fin 16) (_ : List Nat),
    (Ready 0x15 tag p s) ∧
    (p.length = 4) ∧
    (s.scanner.slots[6].valid = true) :=
  ⟨{ State.reset with scanner := { Scanner.start with slots := Scanner.start.slots.set 6 { SlotRun.start with code := 1900, mv := 1160, valid := true, count := 2 } } }, 7, [244, 1, 232, 3], 6, [], by decide, by decide, by decide⟩

theorem test_meets_ReadResultsReturns : ∃ (s : State) (tag : Byte) (p : List Byte),
    (Ready 0x13 tag p s) ∧
    (p.length = 2) :=
  ⟨State.reset, 7, [15, 7], by decide, by decide⟩

theorem test_meets_ReadResultsReturns_low : ∃ (s : State) (tag : Byte) (p : List Byte),
    (Ready 0x13 tag p s) ∧
    (p.length = 2) ∧
    (u8 p 0 = 0) ∧
    (u8 p 1 = 0) :=
  ⟨State.reset, 7, [0, 0], by decide, by decide, by decide, by decide⟩

theorem test_meets_SpotReadRuns_slotEnds : ∃ (s : State) (_ : Byte) (_ : List Byte) (input : Input) (divider : Divider) (n : Fin 16) (codes : List Nat) (_ : BitVec 12) (_ : Request) (_ : List Request),
    (s.supply = .run) ∧
    (s.scanner.conv = .slot n codes) ∧
    (s.store.settings.scan.slots[n].kind = .single) ∧
    (s.scanner.spot = some ⟨input, divider⟩) :=
  ⟨{ State.reset with scanner := { Scanner.start with conv := .slot 7 [], spot := some ⟨.ref, .by1⟩, cycleDue := true } }, 7, [], .ref, .by1, 7, [], 1638, ⟨0x14, 7, [16, 0], true⟩, [], by decide, by decide, by decide, by decide⟩

theorem test_meets_SpotReadRuns_idle : ∃ (s : State) (tag : Byte) (p : List Byte) (input : Input) (divider : Divider) (_ : Fin 16) (_ : List Nat) (_ : BitVec 12) (_ : Request) (_ : List Request),
    (Ready 0x14 tag p s) ∧
    (p.length = 2) ∧
    (u8 p 0 = input.code) ∧
    (u8 p 1 = divider.code) ∧
    (s.scanner.conv = .idle) :=
  ⟨{ State.reset with scanner := Scanner.start }, 7, [16, 0], .ref, .by1, 0, [], 0, ⟨0x14, 7, [16, 0], true⟩, [], by decide, by decide, by decide, by decide, by decide⟩

theorem test_meets_SpotReadRuns_waits : ∃ (s : State) (tag : Byte) (p : List Byte) (input : Input) (divider : Divider) (n : Fin 16) (codes : List Nat) (_ : BitVec 12) (_ : Request) (_ : List Request),
    (Ready 0x14 tag p s) ∧
    (p.length = 2) ∧
    (u8 p 0 = input.code) ∧
    (u8 p 1 = divider.code) ∧
    (s.scanner.conv = .slot n codes) :=
  ⟨State.reset, 7, [16, 3], .ref, .by8, 0, [], 0, ⟨0x14, 7, [16, 0], true⟩, [], by decide, by decide, by decide, by decide, by decide⟩

theorem test_meets_SpotReadRuns_ends : ∃ (s : State) (_ : Byte) (_ : List Byte) (input : Input) (divider : Divider) (_ : Fin 16) (_ : List Nat) (_ : BitVec 12) (r : Request) (rest : List Request),
    (s.supply = .run) ∧
    (s.link.queue = r :: rest) ∧
    (s.scanner.conv = .spot input divider none) :=
  ⟨{ State.reset with scanner := { Scanner.start with conv := .spot .ref .by1 none }, link := { State.reset.link with queue := [⟨0x14, 7, [16, 0], true⟩] } }, 7, [16, 0], .ref, .by1, 0, [], 1638, ⟨0x14, 7, [16, 0], true⟩, [], by decide, by decide, by decide⟩

theorem test_meets_SpotReadRuns_due : ∃ (s : State) (_ : Byte) (_ : List Byte) (input : Input) (divider : Divider) (_ : Fin 16) (_ : List Nat) (_ : BitVec 12) (r : Request) (rest : List Request),
    (s.supply = .run) ∧
    (s.link.queue = r :: rest) ∧
    (s.scanner.conv = .spot input divider none) ∧
    (s.scanner.cycleDue = true) :=
  ⟨{ State.reset with scanner := { Scanner.start with conv := .spot .ref .by1 none, cycleDue := true }, link := { State.reset.link with queue := [⟨0x14, 7, [16, 0], true⟩] } }, 7, [16, 0], .ref, .by1, 0, [], 1638, ⟨0x14, 7, [16, 0], true⟩, [], by decide, by decide, by decide, by decide⟩

theorem test_meets_SpotReadRuns_last : ∃ (s : State) (_ : Byte) (_ : List Byte) (input : Input) (divider : Divider) (n : Fin 16) (_ : List Nat) (_ : BitVec 12) (r : Request) (rest : List Request),
    (s.supply = .run) ∧
    (s.link.queue = r :: rest) ∧
    (s.scanner.conv = .spot input divider (some n)) ∧
    (7 ≤ n.val) :=
  ⟨{ State.reset with scanner := { Scanner.start with conv := .spot .ref .by1 (some 7) }, link := { State.reset.link with queue := [⟨0x14, 7, [16, 0], true⟩] } }, 7, [16, 0], .ref, .by1, 7, [], 1638, ⟨0x14, 7, [16, 0], true⟩, [], by decide, by decide, by decide, by decide⟩

theorem test_meets_SpotReadRuns_goesOn : ∃ (s : State) (_ : Byte) (_ : List Byte) (input : Input) (divider : Divider) (n : Fin 16) (_ : List Nat) (_ : BitVec 12) (r : Request) (rest : List Request),
    (s.supply = .run) ∧
    (s.link.queue = r :: rest) ∧
    (s.scanner.conv = .spot input divider (some n)) :=
  ⟨{ State.reset with scanner := { Scanner.start with conv := .spot .ref .by1 (some 6) }, link := { State.reset.link with queue := [⟨0x14, 7, [16, 0], true⟩] } }, 7, [16, 0], .ref, .by1, 6, [], 1638, ⟨0x14, 7, [16, 0], true⟩, [], by decide, by decide, by decide⟩

theorem test_meets_HostSlotConverts : ∃ (s : State) (n : Fin 16) (codes : List Nat) (_ : BitVec 12),
    (s.supply = .run) ∧
    (s.scanner.conv = .slot n codes) ∧
    (8 ≤ n.val) :=
  ⟨{ State.reset with scanner := { Scanner.start with conv := .slot 8 [] } }, 8, [], 4095, by decide, by decide, by decide⟩

theorem test_meets_HostSlotConverts_spot : ∃ (s : State) (n : Fin 16) (codes : List Nat) (_ : BitVec 12),
    (s.supply = .run) ∧
    (s.scanner.conv = .slot n codes) ∧
    (8 ≤ n.val) ∧
    (s.scanner.spot.isSome = true) :=
  ⟨{ State.reset with scanner := { Scanner.start with conv := .slot 15 [], spot := some ⟨.ref, .by1⟩ } }, 15, [], 4095, by decide, by decide, by decide, by decide⟩

theorem test_meets_HostSlotConverts_next : ∃ (s : State) (n : Fin 16) (codes : List Nat) (_ : BitVec 12),
    (s.supply = .run) ∧
    (s.scanner.conv = .slot n codes) ∧
    (8 ≤ n.val) ∧
    (slotFrom s.store.settings.scan (n.val + 1) = some 12) :=
  ⟨{ State.reset with scanner := { Scanner.start with conv := .slot 8 [] }, store := { Store.cold with settings := { Settings.cold with scan := { ScanSettings.cold with slots := ScanSettings.cold.slots.set 12 { ScanSettings.cold.slots[12] with enabled := true } } } } }, 8, [], 4095, by decide, by decide, by decide, by decide⟩

theorem test_meets_CyclesAndReference_scanPeriodStartsCycle_idle : ∃ (s : State) (timer : Timer) (_ : List Nat) (_ : BitVec 12),
    (s.supply = .run) ∧
    (s.scanner.period = some timer) ∧
    (timer.length ≤ (s.timeBase - timer.since).toNat) ∧
    (s.scanner.conv = .idle) :=
  ⟨{ State.reset with scanner := { Scanner.start with period := some ⟨18, 10⟩ } }, ⟨18, 10⟩, [], 0, by decide, by decide, by decide, by decide⟩

theorem test_meets_CyclesAndReference_scanPeriodStartsCycle_busy : ∃ (s : State) (timer : Timer) (_ : List Nat) (_ : BitVec 12),
    (s.supply = .run) ∧
    (s.scanner.period = some timer) ∧
    (timer.length ≤ (s.timeBase - timer.since).toNat) ∧
    (s.scanner.conv ≠ .idle) :=
  ⟨{ State.reset with scanner := { Scanner.start with period := some ⟨18, 10⟩, conv := .slot 0 [] } }, ⟨18, 10⟩, [], 0, by decide, by decide, by decide, by decide⟩

theorem test_meets_CyclesAndReference_scanPeriodStartsCycle_early : ∃ (s : State) (timer : Timer) (_ : List Nat) (_ : BitVec 12),
    (s.supply = .run) ∧
    (s.scanner.period = some timer) ∧
    ((s.timeBase - timer.since).toNat < timer.length) :=
  ⟨{ State.reset with scanner := { Scanner.start with period := some ⟨19, 10⟩ } }, ⟨19, 10⟩, [], 0, by decide, by decide, by decide⟩

theorem test_meets_CyclesAndReference_referenceCheckCounts : ∃ (s : State) (_ : Timer) (codes : List Nat) (_ : BitVec 12),
    (s.supply = .run) ∧
    (s.scanner.conv = .slot 7 codes) ∧
    (s.store.settings.scan.slots[7].kind = .single) ∧
    (s.store.settings.scan.slots[7].divider = .by1) ∧
    (s.scanner.outsideCount ≤ 2) ∧
    (s.scanner.insideCount ≤ 2) :=
  ⟨{ State.reset with scanner := { Scanner.start with conv := .slot 7 [], outsideCount := 2 } }, ⟨0, 0⟩, [], 1700, by decide, by decide, by decide, by decide, by decide, by decide⟩

theorem test_meets_CyclesAndReference_referenceCheckCounts_back : ∃ (s : State) (_ : Timer) (codes : List Nat) (_ : BitVec 12),
    (s.supply = .run) ∧
    (s.scanner.conv = .slot 7 codes) ∧
    (s.store.settings.scan.slots[7].kind = .single) ∧
    (s.store.settings.scan.slots[7].divider = .by1) ∧
    (s.scanner.outsideCount ≤ 2) ∧
    (s.scanner.insideCount ≤ 2) ∧
    (s.scanner.ref = .degraded) ∧
    (s.scanner.insideCount = 2) :=
  ⟨{ State.reset with scanner := { Scanner.start with conv := .slot 7 [], ref := .degraded, insideCount := 2 } }, ⟨0, 0⟩, [], 1638, by decide, by decide, by decide, by decide, by decide, by decide, by decide, by decide⟩

theorem test_meets_PresenceMoves_presencePinPends_retain : ∃ (s : State) (_ : Source) (_ : Bool) (_ : Moment),
    (s.supply ≠ .run) :=
  ⟨{ State.reset with supply := .retain none }, .a, true, 0, by decide⟩

theorem test_meets_PresenceMoves_presencePinPends_disabled : ∃ (s : State) (x : Source) (_ : Bool) (_ : Moment),
    (s.supply = .run) ∧
    ((s.src x).state = .disabled) :=
  ⟨{ State.reset with power := { Power.start with src := ⟨.start, { SourceRun.start with state := .disabled }, .start⟩ } }, .a, true, 0, by decide, by decide⟩

theorem test_meets_PresenceMoves_presencePinPends_absorbed : ∃ (s : State) (x : Source) (_ : Bool) (_ : Moment),
    (s.supply = .run) ∧
    ((s.src x).state ≠ .disabled) :=
  ⟨{ State.reset with power := { Power.start with src := ⟨.start, { SourceRun.start with state := .activeOn, presence := true, pendingPresence := some 22 }, .start⟩ } }, .a, true, 0, by decide, by decide⟩

theorem test_meets_PresenceMoves_presenceTaken_lost : ∃ (s : State) (x : Source) (_ : Bool) (m : Moment),
    (s.supply = .run) ∧
    ((s.src x).pendingPresence = some m) ∧
    ((match x with
      | .dc => 20
      | .a => if s.drop.contactGuard then 5 + s.store.settings.power.bays.a.rideThrough else 5
      | .b => if s.drop.contactGuard then 5 + s.store.settings.power.bays.b.rideThrough else 5) ≤ (s.timeBase - m).toNat) ∧
    ((s.src x).presence = true) :=
  ⟨{ State.reset with power := { Power.start with src := ⟨{ SourceRun.start with state := .standby, presence := true, pendingPresence := some 8 }, .start, .start⟩ } }, .dc, true, 8, by decide, by decide, by decide, by decide⟩

theorem test_meets_PresenceMoves_presenceTaken_gained : ∃ (s : State) (x : Source) (_ : Bool) (m : Moment),
    (s.supply = .run) ∧
    ((s.src x).pendingPresence = some m) ∧
    ((match x with
      | .dc => 20
      | .a => if s.drop.contactGuard then 5 + s.store.settings.power.bays.a.rideThrough else 5
      | .b => if s.drop.contactGuard then 5 + s.store.settings.power.bays.b.rideThrough else 5) ≤ (s.timeBase - m).toNat) ∧
    ((s.src x).presence = false) ∧
    ((s.src x).state = .absent) :=
  ⟨{ State.reset with power := { Power.start with src := ⟨.start, .start, { SourceRun.start with pendingPresence := some 23 }⟩ } }, .b, true, 23, by decide, by decide, by decide, by decide, by decide⟩

theorem test_meets_QualifyAndViolation_qualify : ∃ (s : State) (x : Source) (since : Moment) (length : Nat) (_ : Side),
    (s.supply = .run) ∧
    (faultCondition (s.srcSettings x) s.pins x = none) ∧
    ((s.src x).latchOpen = false) ∧
    ((s.src x).state = .qualify) ∧
    ((s.src x).qualify = .running since length) ∧
    (length ≤ (s.timeBase - since).toNat) :=
  ⟨{ State.reset with timeBase := 500, power := { Power.start with src := ⟨.start, { SourceRun.start with state := .qualify, presence := true, qualify := .running 0 500 }, .start⟩ } }, .a, 0, 500, .low, by decide, by decide, by decide, by decide, by decide, by decide⟩

theorem test_meets_QualifyAndViolation_waits : ∃ (s : State) (x : Source) (_ : Moment) (_ : Nat) (_ : Side),
    (s.supply = .run) ∧
    (faultCondition (s.srcSettings x) s.pins x = none) ∧
    ((s.src x).latchOpen = false) ∧
    (transferWaits x s = true) ∧
    ((s.src x).state = .qualify) :=
  ⟨{ State.reset with timeBase := 500, power := { Power.start with transfer := some ⟨.breakLoad, noSources, .dc, .closingIncoming, 0, oneSource .dc⟩, src := ⟨{ SourceRun.start with state := .activeClosing, presence := true, switch := true, goodWatch := some 0 }, { SourceRun.start with state := .qualify, presence := true, qualify := .running 0 500 }, .start⟩ } }, .a, 0, 500, .low, by decide, by decide, by decide, by decide, by decide⟩

theorem test_meets_QualifyAndViolation_violation : ∃ (s : State) (x : Source) (since : Moment) (_ : Nat) (side : Side),
    (s.supply = .run) ∧
    (faultCondition (s.srcSettings x) s.pins x = none) ∧
    ((s.src x).latchOpen = false) ∧
    ((s.src x).state = .standby) ∧
    ((s.src x).violation = .running since side) ∧
    ((s.srcSettings x).violationTime ≤ (s.timeBase - since).toNat) :=
  ⟨{ State.reset with timeBase := 30, power := { Power.start with src := ⟨.start, { SourceRun.start with state := .standby, presence := true, violation := .running 0 .low }, .start⟩ } }, .a, 0, 500, .low, by decide, by decide, by decide, by decide, by decide, by decide⟩

theorem test_meets_FaultsTaken_faultsTaken_window : ∃ (s : State) (x : Source) (since : Moment) (side : Side) (_ : FaultLine),
    (s.supply = .run) ∧
    ((s.src x).state = .activeOn) ∧
    ((s.src x).violation = .running since side) ∧
    ((s.srcSettings x).violationTime ≤ (s.timeBase - since).toNat) ∧
    (s.drop.contactGuard = false) :=
  ⟨{ State.reset with timeBase := 30, power := { Power.start with src := ⟨.start, { SourceRun.start with state := .activeOn, presence := true, switch := true, violation := .running 0 .high }, .start⟩ } }, .a, 0, .high, .shared, by decide, by decide, by decide, by decide, by decide⟩

theorem test_meets_FaultsTaken_faultsTaken_line : ∃ (s : State) (x : Source) (_ : Moment) (_ : Side) (line : FaultLine),
    (s.supply = .run) ∧
    ((s.srcSettings x).faultSelect = .pin) ∧
    (line = .own x) ∧
    ((s.src x).state.takesFaults = true) :=
  ⟨{ State.reset with power := { Power.start with src := ⟨.start, { SourceRun.start with state := .standby, presence := true }, .start⟩ } }, .a, 0, .high, .own .a, by decide, by decide, by decide, by decide⟩

theorem test_meets_FaultsTaken_faultsTaken_retain : ∃ (s : State) (_ : Source) (_ : Moment) (_ : Side) (_ : FaultLine),
    (s.supply ≠ .run) :=
  ⟨{ State.reset with supply := .retain none }, .a, 0, .high, .shared, by decide⟩

theorem test_meets_FaultsTaken_faultsTaken_watch : ∃ (s : State) (x : Source) (since : Moment) (_ : Side) (_ : FaultLine),
    (s.supply = .run) ∧
    ((s.src x).goodWatch = some since) ∧
    (5 ≤ (s.timeBase - since).toNat) ∧
    ((s.src x).state = .activeClosing ∨ (s.src x).state = .releasingHeld) :=
  ⟨{ State.reset with power := { Power.start with src := ⟨.start, { SourceRun.start with state := .activeClosing, presence := true, switch := true, goodWatch := some 23 }, .start⟩ } }, .a, 23, .high, .shared, by decide, by decide, by decide, by decide⟩

theorem test_meets_GoodConfirms_overlap : ∃ (s : State) (x : Source) (m : Moment) (tr : Transfer) (_ : Bay),
    (s.supply = .run) ∧
    ((s.src x).state = .activeClosing) ∧
    ((s.src x).goodWatch = some m) ∧
    (faultCondition (s.srcSettings x) s.pins x = none) ∧
    (s.power.transfer = some tr) ∧
    (tr.incoming = x) ∧
    (tr.step = .closingIncoming) ∧
    (tr.outgoing.get x = false) ∧
    (∃ y ∈ allSources, tr.outgoing.get y = true ∧ (s.src y).state.closed = true) :=
  ⟨{ State.reset with power := { Power.start with transfer := some ⟨.planned, oneSource .a, .dc, .closingIncoming, 27, oneSource .dc⟩, src := ⟨{ SourceRun.start with state := .activeClosing, presence := true, switch := true, goodWatch := some 27 }, { SourceRun.start with state := .activeOn, presence := true, switch := true }, .start⟩ } }, .dc, 27, ⟨.planned, oneSource .a, .dc, .closingIncoming, 27, oneSource .dc⟩, .a, by decide, by decide, by decide, by decide, by decide, by decide, by decide, by decide, by decide⟩

theorem test_meets_GoodConfirms_ends : ∃ (s : State) (_ : Source) (m : Moment) (tr : Transfer) (_ : Bay),
    (s.supply = .run) ∧
    ((s.src .dc).state = .activeClosing) ∧
    ((s.src .dc).goodWatch = some m) ∧
    (faultCondition (s.srcSettings .dc) s.pins .dc = none) ∧
    (s.power.transfer = some tr) ∧
    (tr.incoming = .dc) ∧
    (tr.outgoing.get .dc = false) ∧
    (∀ y ∈ allSources, tr.outgoing.get y = true → (s.src y).state.closed = false) :=
  ⟨{ State.reset with power := { Power.start with transfer := some ⟨.breakLoad, noSources, .dc, .closingIncoming, 27, oneSource .dc⟩, src := ⟨{ SourceRun.start with state := .activeClosing, presence := true, switch := true, goodWatch := some 27 }, .start, .start⟩ } }, .dc, 27, ⟨.breakLoad, noSources, .dc, .closingIncoming, 27, oneSource .dc⟩, .a, by decide, by decide, by decide, by decide, by decide, by decide, by decide, by decide⟩

theorem test_meets_GoodConfirms_breakBay : ∃ (s : State) (x : Source) (m : Moment) (tr : Transfer) (_ : Bay),
    (s.supply = .run) ∧
    ((s.src x).state = .activeClosing) ∧
    ((s.src x).goodWatch = some m) ∧
    (faultCondition (s.srcSettings x) s.pins x = none) ∧
    (s.power.transfer = some tr) ∧
    (tr.incoming = x) ∧
    (tr.outgoing.get x = false) ∧
    (∀ y ∈ allSources, tr.outgoing.get y = true → (s.src y).state.closed = false) ∧
    (x ≠ .dc) :=
  ⟨{ State.reset with locks := ⟨.start, { BayLock.start with reasons := ⟨false, true, false, false⟩, drive := true, state := .locked }⟩, power := { Power.start with condition := .transfer, transfer := some ⟨.breakLoad, noSources, .b, .closingIncoming, 27, oneSource .b⟩, src := ⟨.start, .start, { SourceRun.start with state := .activeClosing, presence := true, switch := true, goodWatch := some 27 }⟩ } }, .b, 27, ⟨.breakLoad, noSources, .b, .closingIncoming, 27, oneSource .b⟩, .a, by decide, by decide, by decide, by decide, by decide, by decide, by decide, by decide, by decide⟩

theorem test_meets_GoodConfirms_joined : ∃ (s : State) (_ : Source) (m : Moment) (_ : Transfer) (bay : Bay),
    (s.supply = .run) ∧
    (s.power.joining = some bay) ∧
    ((s.src (baySource bay)).state = .activeClosing) ∧
    ((s.src (baySource bay)).goodWatch = some m) ∧
    (faultCondition (s.srcSettings (baySource bay)) s.pins (baySource bay) = none) ∧
    (s.power.transfer = none) ∧
    (s.power.preferred s.store.settings.power.policy = s.power.feeding) :=
  ⟨{ State.reset with store := { Store.cold with settings := { Settings.cold with power := { PowerSettings.cold with policy := .share } } }, power := { Power.start with joining := some .b, src := ⟨.start, { SourceRun.start with state := .activeOn, presence := true, switch := true }, { SourceRun.start with state := .activeClosing, presence := true, switch := true, goodWatch := some 27 }⟩ } }, .b, 27, ⟨.planned, noSources, .dc, .closingIncoming, 27, oneSource .dc⟩, .b, by decide, by decide, by decide, by decide, by decide, by decide, by decide⟩

theorem test_meets_GoodConfirms_held : ∃ (s : State) (x : Source) (m : Moment) (_ : Transfer) (_ : Bay),
    (s.supply = .run) ∧
    ((s.src x).state = .releasingHeld) ∧
    ((s.src x).goodWatch = some m) ∧
    (s.power.transfer = none) :=
  ⟨{ State.reset with power := { Power.start with src := ⟨.start, { SourceRun.start with state := .releasingHeld, presence := true, switch := true, latchOpen := true, goodWatch := some 27 }, .start⟩ } }, .a, 27, ⟨.breakLoad, noSources, .dc, .closingIncoming, 27, oneSource .dc⟩, .a, by decide, by decide, by decide, by decide⟩

theorem test_meets_LatchesMove_opens : ∃ (s : State) (bay : Bay) (_ : Bool) (m : Moment),
    (s.supply = .run) ∧
    ((s.src (baySource bay)).pendingLatch = some m) ∧
    (2 ≤ (s.timeBase - m).toNat) ∧
    ((s.src (baySource bay)).latchOpen = false) ∧
    (faultCondition (s.srcSettings (baySource bay)) s.pins (baySource bay) = none) ∧
    ((s.src (baySource bay)).state = .standby) :=
  ⟨{ State.reset with power := { Power.start with src := ⟨.start, { SourceRun.start with state := .standby, presence := true, pendingLatch := some 26 }, .start⟩ } }, .a, true, 26, by decide, by decide, by decide, by decide, by decide, by decide⟩

theorem test_meets_LatchesMove_opensFeeding : ∃ (s : State) (bay : Bay) (_ : Bool) (m : Moment),
    (s.supply = .run) ∧
    ((s.src (baySource bay)).pendingLatch = some m) ∧
    (2 ≤ (s.timeBase - m).toNat) ∧
    ((s.src (baySource bay)).latchOpen = false) ∧
    (faultCondition (s.srcSettings (baySource bay)) s.pins (baySource bay) = none) ∧
    ((s.src (baySource bay)).state = .activeOn) :=
  ⟨{ State.reset with power := { Power.start with src := ⟨.start, { SourceRun.start with state := .activeOn, switch := true, presence := true, pendingLatch := some 26 }, .start⟩ } }, .a, true, 26, by decide, by decide, by decide, by decide, by decide, by decide⟩

theorem test_meets_LatchesMove_closes : ∃ (s : State) (bay : Bay) (_ : Bool) (m : Moment),
    (s.supply = .run) ∧
    ((s.src (baySource bay)).pendingLatch = some m) ∧
    (2 ≤ (s.timeBase - m).toNat) ∧
    ((s.src (baySource bay)).latchOpen = true) ∧
    (faultCondition (s.srcSettings (baySource bay)) s.pins (baySource bay) = none) ∧
    ((s.src (baySource bay)).state = .releasingOpen) :=
  ⟨{ State.reset with power := { Power.start with src := ⟨.start, { SourceRun.start with state := .releasingOpen, presence := true, latchOpen := true, pendingLatch := some 26 }, .start⟩ } }, .a, false, 26, by decide, by decide, by decide, by decide, by decide, by decide⟩

theorem test_meets_LatchesMove_closesHeld : ∃ (s : State) (bay : Bay) (_ : Bool) (m : Moment),
    (s.supply = .run) ∧
    ((s.src (baySource bay)).pendingLatch = some m) ∧
    (2 ≤ (s.timeBase - m).toNat) ∧
    ((s.src (baySource bay)).latchOpen = true) ∧
    (faultCondition (s.srcSettings (baySource bay)) s.pins (baySource bay) = none) ∧
    ((s.src (baySource bay)).state = .releasingHeld) ∧
    (s.power.transfer = none ∧ s.power.joining = none ∧ (∀ y ∈ allSources, y ≠ baySource bay → (s.src y).state.closed = false)) :=
  ⟨{ State.reset with power := { Power.start with src := ⟨.start, { SourceRun.start with state := .releasingHeld, switch := true, presence := true, latchOpen := true, pendingLatch := some 26 }, .start⟩ } }, .a, false, 26, by decide, by decide, by decide, by decide, by decide, by decide, by decide⟩

theorem test_meets_LatchesMove_closesWaiting : ∃ (s : State) (bay : Bay) (_ : Bool) (m : Moment),
    (s.supply = .run) ∧
    ((s.src (baySource bay)).pendingLatch = some m) ∧
    (2 ≤ (s.timeBase - m).toNat) ∧
    ((s.src (baySource bay)).latchOpen = true) ∧
    (faultCondition (s.srcSettings (baySource bay)) s.pins (baySource bay) = none) ∧
    ((s.src (baySource bay)).state = .releasingHeld) ∧
    (transferWaits (baySource bay) s = true) :=
  ⟨{ State.reset with power := { Power.start with transfer := some ⟨.release, oneSource .a, .dc, .closingIncoming, 24, oneSource .dc⟩, src := ⟨{ SourceRun.start with state := .activeClosing, presence := true, switch := true, goodWatch := some 24 }, { SourceRun.start with state := .releasingHeld, switch := true, presence := true, latchOpen := true, pendingLatch := some 26 }, .start⟩ } }, .a, false, 26, by decide, by decide, by decide, by decide, by decide, by decide, by decide⟩

theorem test_meets_ReadingsDelivered_voltage : ∃ (s : State) (x : Source) (_ : Bay) (_ : BitVec 12) (n : Fin 16) (codes : List Nat),
    (s.supply = .run) ∧
    (s.scanner.conv = .slot n codes) ∧
    (n.val = (match x with | .dc => 0 | .a => 1 | .b => 2)) ∧
    (s.store.settings.scan.slots[n].kind = .single) ∧
    (s.store.settings.scan.slots[n].divider = .by8) :=
  ⟨{ State.reset with scanner := { Scanner.start with conv := .slot 1 [] } }, .a, .a, 2540, 1, [], by decide, by decide, by decide, by decide, by decide⟩

theorem test_meets_ReadingsDelivered_absorbs : ∃ (s : State) (x : Source) (_ : Bay) (_ : BitVec 12) (n : Fin 16) (codes : List Nat),
    (s.supply = .run) ∧
    (s.scanner.conv = .slot n codes) ∧
    (n.val = (match x with | .dc => 0 | .a => 1 | .b => 2)) ∧
    (s.store.settings.scan.slots[n].kind = .single) ∧
    (s.store.settings.scan.slots[n].divider = .by8) ∧
    (s.drop.contactGuard = true) ∧
    (s.drop.record.isSome = true) ∧
    ((s.src x).pendingPresence = some 21) ∧
    ((s.src x).presence = true) :=
  ⟨{ State.reset with scanner := { Scanner.start with conv := .slot 1 [] }, store := Store.withWord { Store.cold with settings := { Settings.cold with power := { PowerSettings.cold with sources := { PowerSettings.cold.sources with a := { PowerSettings.cold.sources.a with presence := .voltage } } } } }, power := { Power.start with src := ⟨.start, { SourceRun.start with state := .activeOn, presence := true, switch := true, pendingPresence := some 21 }, .start⟩ }, drop := { Drop.start with state := .recover, contactGuard := true, park := true, record := some (newRecord (some .fallNoImpact) 5 none State.reset) } }, .a, .a, 2540, 1, [], by decide, by decide, by decide, by decide, by decide, by decide, by decide, by decide, by decide⟩

theorem test_meets_ReadingsDelivered_inlet : ∃ (s : State) (x : Source) (_ : Bay) (_ : BitVec 12) (n : Fin 16) (codes : List Nat),
    (s.supply = .run) ∧
    (s.scanner.conv = .slot n codes) ∧
    (n.val = (match x with | .dc => 0 | .a => 1 | .b => 2)) ∧
    (s.store.settings.scan.slots[n].kind = .single) ∧
    (s.store.settings.scan.slots[n].divider = .by8) ∧
    ((s.src x).state = .activeOn) :=
  ⟨{ State.reset with scanner := { Scanner.start with conv := .slot 0 [] }, power := { Power.start with src := ⟨{ SourceRun.start with state := .activeOn, switch := true, presence := true }, .start, .start⟩ } }, .dc, .a, 2540, 0, [], by decide, by decide, by decide, by decide, by decide, by decide⟩

theorem test_meets_ReadingsDelivered_waits : ∃ (s : State) (x : Source) (_ : Bay) (_ : BitVec 12) (n : Fin 16) (codes : List Nat),
    (s.supply = .run) ∧
    (s.scanner.conv = .slot n codes) ∧
    (n.val = (match x with | .dc => 0 | .a => 1 | .b => 2)) ∧
    (s.store.settings.scan.slots[n].kind = .single) ∧
    (s.store.settings.scan.slots[n].divider = .by8) ∧
    (transferWaits x s = true) :=
  ⟨{ State.reset with scanner := { Scanner.start with conv := .slot 1 [] }, power := { Power.start with transfer := some ⟨.planned, oneSource .a, .dc, .closingIncoming, 27, oneSource .dc⟩, src := ⟨{ SourceRun.start with state := .activeClosing, switch := true, presence := true, goodWatch := some 27 }, { SourceRun.start with state := .activeOn, switch := true, presence := true }, .start⟩ } }, .a, .a, 2540, 1, [], by decide, by decide, by decide, by decide, by decide, by decide⟩

theorem test_meets_ReadingsDelivered_current : ∃ (s : State) (_ : Source) (bay : Bay) (_ : BitVec 12) (n : Fin 16) (codes : List Nat),
    (s.supply = .run) ∧
    (s.scanner.conv = .slot n codes) ∧
    (n.val = (match bay with | .a => 3 | .b => 4)) ∧
    (s.store.settings.scan.slots[n].kind = .average .four) ∧
    (codes.length = 3) ∧
    ((s.src (baySource bay)).currentCount ≤ 1) :=
  ⟨{ State.reset with scanner := { Scanner.start with conv := .slot 4 [1310, 1310, 1310] } }, .b, .b, 1310, 4, [1310, 1310, 1310], by decide, by decide, by decide, by decide, by decide, by decide⟩

theorem test_meets_ReadingsDelivered_temperature : ∃ (s : State) (_ : Source) (_ : Bay) (_ : BitVec 12) (n : Fin 16) (codes : List Nat),
    (s.supply = .run) ∧
    (s.scanner.conv = .slot n codes) ∧
    (n.val = 6) ∧
    (s.store.settings.scan.slots[n].kind = .average .two) ∧
    (s.store.settings.scan.slots[n].divider = .by1) ∧
    (codes.length = 1) :=
  ⟨{ State.reset with scanner := { Scanner.start with conv := .slot 6 [1900] } }, .b, .b, 1900, 6, [1900], by decide, by decide, by decide, by decide, by decide, by decide⟩

theorem test_meets_SourceRequests_get : ∃ (s : State) (tag : Byte) (p : List Byte),
    (u8 p 0 ≠ 0) ∧
    (u8 p 0 < 8) ∧
    (Ready 0x21 tag p s) ∧
    (p.length = 2) ∧
    (u8 p 1 ≤ 1) :=
  ⟨State.reset, 7, [7, 1], by decide, by decide, by decide, by decide, by decide⟩

theorem test_meets_SourceRequests_clear : ∃ (s : State) (tag : Byte) (p : List Byte),
    (u8 p 0 ≠ 0) ∧
    (u8 p 0 < 8) ∧
    (Ready 0x22 tag p s) ∧
    (p.length = 1) ∧
    ((s.src .a).state.code = 6) :=
  ⟨{ State.reset with power := { Power.start with src := ⟨.start, { SourceRun.start with state := .fault .shared, presence := true }, .start⟩ } }, 7, [2], by decide, by decide, by decide, by decide, by decide⟩

theorem test_meets_SetSourceStores : ∃ (s : State) (tag : Byte) (p : List Byte) (presence : PresenceSelect) (select : FaultSelect),
    (Ready 0x20 tag p s) ∧
    (p.length = 21) ∧
    (malformed 0x20 p = false) ∧
    (presenceSelect? (u8 p 2) = some presence) ∧
    (faultSelect? (u8 p 5) = some select) :=
  ⟨State.reset, 7, [2, 0, 0, 0, 0, 1, 0, 0, 1, 0, 0, 0, 10, 0, 0, 0, 0, 0, 0, 1, 255], .pin, .pin, by decide, by decide, by decide, by decide, by decide⟩

theorem test_meets_SetSourceStores_formed : ∃ (s : State) (tag : Byte) (p : List Byte) (presence : PresenceSelect) (select : FaultSelect),
    (Ready 0x20 tag p s) ∧
    (p.length = 21) ∧
    (malformed 0x20 p = false) ∧
    (presenceSelect? (u8 p 2) = some presence) ∧
    (faultSelect? (u8 p 5) = some select) ∧
    (s.drop.contactGuard = true) ∧
    (s.drop.record.isSome = true) ∧
    ((s.src .a).pendingPresence = some 10) ∧
    (presence = .forced) :=
  ⟨{ State.reset with power := { Power.start with condition := .single, src := ⟨.start, { SourceRun.start with state := .activeOn, presence := true, switch := true, pendingPresence := some 10 }, .start⟩ }, drop := { Drop.start with state := .recover, contactGuard := true, park := true, record := some (newRecord (some .fallNoImpact) 5 none State.reset) } }, 7, [2, 1, 3, 112, 23, 1, 248, 42, 104, 66, 244, 1, 30, 0, 0, 0, 0, 0, 0, 0, 0], .forced, .pin, by decide, by decide, by decide, by decide, by decide, by decide, by decide, by decide, by decide⟩

theorem test_meets_SetSourceStores_faults : ∃ (s : State) (tag : Byte) (p : List Byte) (presence : PresenceSelect) (select : FaultSelect),
    (Ready 0x20 tag p s) ∧
    (p.length = 21) ∧
    (malformed 0x20 p = false) ∧
    (presenceSelect? (u8 p 2) = some presence) ∧
    (faultSelect? (u8 p 5) = some select) ∧
    (s.pins.fltShared = true) ∧
    ((s.src .a).state = .activeOn) ∧
    (select = .shared) :=
  ⟨{ State.reset with pins := { Pins.released with fltShared := true }, power := { Power.start with condition := .single, src := ⟨.start, { SourceRun.start with state := .activeOn, presence := true, switch := true }, .start⟩ } }, 7, [2, 1, 0, 112, 23, 2, 248, 42, 104, 66, 244, 1, 30, 0, 0, 0, 0, 0, 0, 0, 0], .pin, .shared, by decide, by decide, by decide, by decide, by decide, by decide, by decide, by decide⟩

theorem test_meets_SetSourceStores_enables : ∃ (s : State) (tag : Byte) (p : List Byte) (presence : PresenceSelect) (select : FaultSelect),
    (Ready 0x20 tag p s) ∧
    (p.length = 21) ∧
    (malformed 0x20 p = false) ∧
    (presenceSelect? (u8 p 2) = some presence) ∧
    (faultSelect? (u8 p 5) = some select) ∧
    (PowerWf s) ∧
    ((s.src .a).state = .disabled) ∧
    (s.pins.pres.a = true) ∧
    (u8 p 1 = 1) :=
  ⟨{ State.reset with pins := { Pins.released with pres := ⟨false, true, false⟩ }, store := Store.withWord { Store.cold with settings := { Settings.cold with power := { PowerSettings.cold with sources := { PowerSettings.cold.sources with a := { PowerSettings.cold.sources.a with enabled := false } } } } }, power := { Power.start with src := ⟨.start, { SourceRun.start with state := .disabled }, .start⟩ } }, 7, [2, 1, 0, 112, 23, 1, 248, 42, 104, 66, 244, 1, 30, 0, 0, 0, 0, 0, 0, 0, 0], .pin, .pin, by decide, by decide, by decide, by decide, by decide, by decide, by decide, by decide, by decide⟩

theorem test_meets_SetSourceStores_inTransfer : ∃ (s : State) (tag : Byte) (p : List Byte) (presence : PresenceSelect) (select : FaultSelect),
    (Ready 0x20 tag p s) ∧
    (p.length = 21) ∧
    (malformed 0x20 p = false) ∧
    (presenceSelect? (u8 p 2) = some presence) ∧
    (faultSelect? (u8 p 5) = some select) ∧
    (s.power.transfer.isSome = true) :=
  ⟨{ State.reset with power := { Power.start with transfer := some ⟨.breakLoad, noSources, .dc, .closingIncoming, 0, oneSource .dc⟩ } }, 7, [1, 1, 0, 0, 0, 1, 0, 0, 1, 0, 0, 0, 10, 0, 0, 0, 0, 0, 0, 0, 0], .pin, .pin, by decide, by decide, by decide, by decide, by decide, by decide⟩

theorem test_meets_PolicyRequests_refused : ∃ (s : State) (tag : Byte) (p : List Byte),
    (Ready 0x23 tag p s) ∧
    (p.length = 3) ∧
    (u8 p 0 ≤ 3) ∧
    (u8 p 2 ≤ 1) ∧
    (s.power.transfer.isSome = true) :=
  ⟨{ State.reset with power := { Power.start with transfer := some ⟨.breakLoad, noSources, .dc, .closingIncoming, 0, oneSource .dc⟩ } }, 7, [3, 21, 0], by decide, by decide, by decide, by decide, by decide⟩

theorem test_meets_PolicyRequests_stored : ∃ (s : State) (tag : Byte) (p : List Byte),
    (Ready 0x23 tag p s) ∧
    (p.length = 3) ∧
    (u8 p 0 ≤ 3) ∧
    (u8 p 2 ≤ 1) ∧
    (s.power.transfer = none) :=
  ⟨State.reset, 7, [3, 0, 0], by decide, by decide, by decide, by decide, by decide⟩

theorem test_meets_PolicyRequests_get : ∃ (s : State) (tag : Byte) (_ : List Byte),
    (Ready 0x24 tag [] s) :=
  ⟨State.reset, 7, [], by decide⟩

theorem test_meets_TransfersBeginAndEnd_breakConfirmed : ∃ (s : State) (x : Source) (_ : Source) (_ : Bay) (m : Moment) (length : Nat) (_ : Timer) (_ : Transfer),
    (s.supply = .run) ∧
    ((s.src x).state = .qualify) ∧
    ((s.src x).qualify = .running m length) ∧
    (length ≤ (s.timeBase - m).toNat) ∧
    (faultCondition (s.srcSettings x) s.pins x = none) ∧
    ((s.src x).latchOpen = false) ∧
    (s.power.transfer = none) ∧
    (s.power.joining = none) ∧
    (Alone x (if x = .dc then allSources else []) s) ∧
    (s.pins.good.get x = true) :=
  ⟨{ State.reset with timeBase := 300, pins := { Pins.released with good := oneSource .dc }, power := { Power.start with src := ⟨{ SourceRun.start with presence := true, state := .qualify, qualify := .running 0 300 }, .start, .start⟩ } }, .dc, .a, .a, 0, 300, ⟨0, 0⟩, ⟨.planned, noSources, .dc, .closingIncoming, 0, noSources⟩, by decide, by decide, by decide, by decide, by decide, by decide, by decide, by decide, by decide⟩

theorem test_meets_TransfersBeginAndEnd_break : ∃ (s : State) (x : Source) (_ : Source) (_ : Bay) (m : Moment) (length : Nat) (_ : Timer) (_ : Transfer),
    (s.supply = .run) ∧
    ((s.src x).state = .qualify) ∧
    ((s.src x).qualify = .running m length) ∧
    (length ≤ (s.timeBase - m).toNat) ∧
    (faultCondition (s.srcSettings x) s.pins x = none) ∧
    ((s.src x).latchOpen = false) ∧
    (s.power.transfer = none) ∧
    (s.power.joining = none) ∧
    (Alone x (if x = .dc then allSources else []) s) ∧
    (s.pins.good.get x = false) :=
  ⟨{ State.reset with timeBase := 300, power := { Power.start with src := ⟨{ SourceRun.start with presence := true, state := .qualify, qualify := .running 0 300 }, .start, .start⟩ } }, .dc, .a, .a, 0, 300, ⟨0, 0⟩, ⟨.planned, noSources, .dc, .closingIncoming, 0, noSources⟩, by decide, by decide, by decide, by decide, by decide, by decide, by decide, by decide, by decide⟩

theorem test_meets_TransfersBeginAndEnd_breakBay : ∃ (s : State) (x : Source) (_ : Source) (_ : Bay) (m : Moment) (length : Nat) (_ : Timer) (_ : Transfer),
    (s.supply = .run) ∧
    ((s.src x).state = .qualify) ∧
    ((s.src x).qualify = .running m length) ∧
    (length ≤ (s.timeBase - m).toNat) ∧
    (faultCondition (s.srcSettings x) s.pins x = none) ∧
    ((s.src x).latchOpen = false) ∧
    (s.power.transfer = none) ∧
    (s.power.joining = none) ∧
    (Alone x (if x = .dc then allSources else []) s) ∧
    (s.pins.good.get x = false) ∧
    (x ≠ .dc) :=
  ⟨{ State.reset with timeBase := 300, power := { Power.start with src := ⟨.start, .start, { SourceRun.start with presence := true, state := .qualify, qualify := .running 0 300 }⟩ } }, .b, .a, .a, 0, 300, ⟨0, 0⟩, ⟨.planned, noSources, .dc, .closingIncoming, 0, noSources⟩, by decide, by decide, by decide, by decide, by decide, by decide, by decide, by decide, by decide⟩

theorem test_meets_TransfersBeginAndEnd_overlap : ∃ (s : State) (_ : Source) (_ : Source) (_ : Bay) (_ : Moment) (_ : Nat) (timer : Timer) (tr : Transfer),
    (s.supply = .run) ∧
    (s.power.transfer = some tr) ∧
    (tr.step = .overlap timer) ∧
    (timer.length ≤ (s.timeBase - timer.since).toNat) ∧
    (tr.outgoing.get tr.incoming = false) ∧
    ((s.src tr.incoming).state = .activeOn) ∧
    (tr.incoming = .dc ∨ (s.store.settings.power.policy ≠ .share ∧ s.power.joining = none ∧
        (s.src tr.incoming).drained = false ∧ (s.src .dc).state.closed = false ∧ (s.src .dc).state ≠ .standby ∧
        allSources.all (fun z => z == tr.incoming || tr.outgoing.get z || !(s.src z).state.closed) = true)) :=
  ⟨{ State.reset with timeBase := 300, power := { Power.start with transfer := some ⟨.planned, oneSource .a, .dc, .overlap ⟨26, 2⟩, 20, oneSource .dc⟩, src := ⟨{ SourceRun.start with presence := true, state := .activeOn, switch := true }, { SourceRun.start with presence := true, state := .activeOn, switch := true }, .start⟩ } }, .dc, .a, .a, 0, 300, ⟨26, 2⟩, ⟨.planned, oneSource .a, .dc, .overlap ⟨26, 2⟩, 20, oneSource .dc⟩, by decide, by decide, by decide, by decide, by decide, by decide, by decide⟩

theorem test_meets_TransfersBeginAndEnd_overlapBay : ∃ (s : State) (_ : Source) (_ : Source) (_ : Bay) (_ : Moment) (_ : Nat) (timer : Timer) (tr : Transfer),
    (s.supply = .run) ∧
    (s.power.transfer = some tr) ∧
    (tr.step = .overlap timer) ∧
    (timer.length ≤ (s.timeBase - timer.since).toNat) ∧
    (tr.outgoing.get tr.incoming = false) ∧
    ((s.src tr.incoming).state = .activeOn) ∧
    (tr.incoming = .dc ∨ (s.store.settings.power.policy ≠ .share ∧ s.power.joining = none ∧
        (s.src tr.incoming).drained = false ∧ (s.src .dc).state.closed = false ∧ (s.src .dc).state ≠ .standby ∧
        allSources.all (fun z => z == tr.incoming || tr.outgoing.get z || !(s.src z).state.closed) = true)) ∧
    (tr.incoming ≠ .dc) :=
  ⟨{ State.reset with timeBase := 300, power := { Power.start with transfer := some ⟨.release, oneSource .a, .b, .overlap ⟨26, 2⟩, 20, oneSource .b⟩, src := ⟨.start, { SourceRun.start with presence := true, state := .releasingHeld, switch := true, latchOpen := true }, { SourceRun.start with presence := true, state := .activeOn, switch := true }⟩ } }, .b, .a, .a, 0, 300, ⟨26, 2⟩, ⟨.release, oneSource .a, .b, .overlap ⟨26, 2⟩, 20, oneSource .b⟩, by decide, by decide, by decide, by decide, by decide, by decide, by decide, by decide⟩

theorem test_meets_TransfersBeginAndEnd_early : ∃ (s : State) (_ : Source) (_ : Source) (_ : Bay) (_ : Moment) (_ : Nat) (timer : Timer) (tr : Transfer),
    (s.supply = .run) ∧
    (s.power.transfer = some tr) ∧
    (tr.step = .overlap timer) ∧
    ((s.timeBase - timer.since).toNat < timer.length) ∧
    ((s.src tr.incoming).state = .activeOn) ∧
    (∃ z ∈ allSources, tr.outgoing.get z = true ∧ (s.src z).state.closed = true) :=
  ⟨{ State.reset with timeBase := 300, power := { Power.start with transfer := some ⟨.planned, oneSource .a, .dc, .overlap ⟨299, 2⟩, 20, oneSource .dc⟩, src := ⟨{ SourceRun.start with presence := true, state := .activeOn, switch := true }, { SourceRun.start with presence := true, state := .activeOn, switch := true }, .start⟩ } }, .dc, .a, .a, 0, 300, ⟨299, 2⟩, ⟨.planned, oneSource .a, .dc, .overlap ⟨299, 2⟩, 20, oneSource .dc⟩, by decide, by decide, by decide, by decide, by decide, by decide⟩

theorem test_meets_TransfersBeginAndEnd_held : ∃ (s : State) (x : Source) (_ : Source) (bay : Bay) (m : Moment) (_ : Nat) (_ : Timer) (_ : Transfer),
    (s.supply = .run) ∧
    (x = baySource bay) ∧
    ((s.src x).state = .activeOn) ∧
    ((s.src x).pendingLatch = some m) ∧
    (2 ≤ (s.timeBase - m).toNat) ∧
    ((s.src x).latchOpen = false) ∧
    (faultCondition (s.srcSettings x) s.pins x = none) ∧
    (s.power.transfer = none) ∧
    (s.power.joining = none) ∧
    (Alone x [] s) :=
  ⟨{ State.reset with timeBase := 300, power := { Power.start with src := ⟨.start, { SourceRun.start with presence := true, state := .activeOn, switch := true, pendingLatch := some 298 }, .start⟩ } }, .a, .b, .a, 298, 300, ⟨0, 0⟩, ⟨.planned, noSources, .dc, .closingIncoming, 0, noSources⟩, by decide, by decide, by decide, by decide, by decide, by decide, by decide, by decide, by decide⟩

theorem test_meets_TransfersBeginAndEnd_release : ∃ (s : State) (x : Source) (y : Source) (bay : Bay) (m : Moment) (_ : Nat) (_ : Timer) (_ : Transfer),
    (s.supply = .run) ∧
    (x = baySource bay) ∧
    ((s.src x).state = .activeOn) ∧
    ((s.src x).pendingLatch = some m) ∧
    (2 ≤ (s.timeBase - m).toNat) ∧
    ((s.src x).latchOpen = false) ∧
    (faultCondition (s.srcSettings x) s.pins x = none) ∧
    (s.power.transfer = none) ∧
    (s.power.joining = none) ∧
    (y ≠ x) ∧
    ((s.src y).state = .standby) ∧
    (faultCondition (s.srcSettings y) s.pins y = none) ∧
    (s.pins.good.get y = false) ∧
    (Alone x [y] s) ∧
    (s.drop.contactGuard = true) :=
  ⟨{ State.reset with timeBase := 300, drop := { Drop.start with contactGuard := true }, power := { Power.start with src := ⟨.start, { SourceRun.start with presence := true, state := .activeOn, switch := true, pendingLatch := some 298 }, { SourceRun.start with presence := true, state := .standby }⟩ } }, .a, .b, .a, 298, 300, ⟨0, 0⟩, ⟨.planned, noSources, .dc, .closingIncoming, 0, noSources⟩, by decide, by decide, by decide, by decide, by decide, by decide, by decide, by decide, by decide⟩

theorem test_meets_TransfersBeginAndEnd_noReserve : ∃ (s : State) (x : Source) (_ : Source) (_ : Bay) (m : Moment) (_ : Nat) (_ : Timer) (_ : Transfer),
    (s.supply = .run) ∧
    ((s.src x).state.closed = true) ∧
    ((s.src x).presence = true) ∧
    ((s.src x).pendingPresence = some m) ∧
    (holdTime x s ≤ (s.timeBase - m).toNat) ∧
    (s.power.transfer = none) ∧
    (s.power.joining = none) ∧
    (Alone x [] s) :=
  ⟨{ State.reset with timeBase := 300, power := { Power.start with src := ⟨.start, { SourceRun.start with presence := true, state := .activeOn, switch := true, pendingPresence := some 295 }, .start⟩ } }, .a, .b, .a, 295, 300, ⟨0, 0⟩, ⟨.planned, noSources, .dc, .closingIncoming, 0, noSources⟩, by decide, by decide, by decide, by decide, by decide, by decide, by decide, by decide⟩

theorem test_meets_TransfersBeginAndEnd_breakFromLoss : ∃ (s : State) (x : Source) (y : Source) (_ : Bay) (m : Moment) (_ : Nat) (_ : Timer) (_ : Transfer),
    (s.supply = .run) ∧
    ((s.src x).state.closed = true) ∧
    ((s.src x).presence = true) ∧
    ((s.src x).pendingPresence = some m) ∧
    (holdTime x s ≤ (s.timeBase - m).toNat) ∧
    (s.power.transfer = none) ∧
    (s.power.joining = none) ∧
    (y ≠ x) ∧
    ((s.src y).state = .standby) ∧
    (faultCondition (s.srcSettings y) s.pins y = none) ∧
    (s.pins.good.get y = false) ∧
    (Alone x [y] s) :=
  ⟨{ State.reset with timeBase := 300, power := { Power.start with src := ⟨{ SourceRun.start with presence := true, state := .standby }, { SourceRun.start with presence := true, state := .activeOn, switch := true, pendingPresence := some 295 }, .start⟩ } }, .a, .dc, .a, 295, 300, ⟨0, 0⟩, ⟨.planned, noSources, .dc, .closingIncoming, 0, noSources⟩, by decide, by decide, by decide, by decide, by decide, by decide, by decide, by decide, by decide⟩

theorem test_meets_EvaluationActs_same : ∃ (s : State) (tag : Byte) (p : List Byte) (policy : Policy) (_ : Source) (pref : SourceSet) (feed : SourceSet),
    (Ready 0x23 tag p s) ∧
    (p.length = 3) ∧
    (u8 p 2 ≤ 1) ∧
    (policy? (u8 p 0) = some policy) ∧
    (policy ≠ s.store.settings.power.policy) ∧
    (s.power.transfer = none) ∧
    (∀ z ∈ allSources, ((s.src z).state = .activeClosing ↔ s.power.joining.map baySource = some z) ∧
        ((s.src z).state.takesFaults = true → faultCondition (s.srcSettings z) s.pins z = none)) ∧
    (pref = s.power.preferred policy) ∧
    (feed = s.power.feeding) ∧
    (pref.isEmpty = true ∨ pref = feed) :=
  ⟨{ State.reset with timeBase := 300, power := { Power.start with src := ⟨.start, { SourceRun.start with presence := true, state := .activeOn, switch := true }, { SourceRun.start with presence := true, state := .standby }⟩ } }, 7, [1, 2, 1], .drainAFirst, .a, ⟨false, true, false⟩, ⟨false, true, false⟩, by decide, by decide, by decide, by decide, by decide, by decide, by decide, by decide, by decide⟩

theorem test_meets_EvaluationActs_leave : ∃ (s : State) (tag : Byte) (p : List Byte) (policy : Policy) (_ : Source) (pref : SourceSet) (feed : SourceSet),
    (Ready 0x23 tag p s) ∧
    (p.length = 3) ∧
    (u8 p 2 ≤ 1) ∧
    (policy? (u8 p 0) = some policy) ∧
    (policy ≠ s.store.settings.power.policy) ∧
    (s.power.transfer = none) ∧
    (∀ z ∈ allSources, ((s.src z).state = .activeClosing ↔ s.power.joining.map baySource = some z) ∧
        ((s.src z).state.takesFaults = true → faultCondition (s.srcSettings z) s.pins z = none)) ∧
    (pref = s.power.preferred policy) ∧
    (feed = s.power.feeding) ∧
    (pref.isEmpty = false) ∧
    (pref ≠ feed) ∧
    (pref.within feed = true) :=
  ⟨{ State.reset with timeBase := 300, power := { Power.start with src := ⟨.start, { SourceRun.start with presence := true, state := .activeOn, switch := true }, { SourceRun.start with presence := true, state := .activeOn, switch := true }⟩ } }, 7, [1, 2, 1], .drainAFirst, .a, ⟨false, true, false⟩, ⟨false, true, true⟩, by decide, by decide, by decide, by decide, by decide, by decide, by decide, by decide, by decide⟩

theorem test_meets_EvaluationActs_joinWaits : ∃ (s : State) (tag : Byte) (p : List Byte) (policy : Policy) (x : Source) (pref : SourceSet) (feed : SourceSet),
    (Ready 0x23 tag p s) ∧
    (p.length = 3) ∧
    (u8 p 2 ≤ 1) ∧
    (policy? (u8 p 0) = some policy) ∧
    (policy ≠ s.store.settings.power.policy) ∧
    (s.power.transfer = none) ∧
    (∀ z ∈ allSources, ((s.src z).state = .activeClosing ↔ s.power.joining.map baySource = some z) ∧
        ((s.src z).state.takesFaults = true → faultCondition (s.srcSettings z) s.pins z = none)) ∧
    (pref = s.power.preferred policy) ∧
    (feed = s.power.feeding) ∧
    (policy = .share) ∧
    (pref.dc = false) ∧
    (feed.dc = false) ∧
    (feed.isEmpty = false) ∧
    (∀ z ∈ allSources, (s.src z).state ≠ .releasingHeld) ∧
    (feed.within pref = true) ∧
    (pref.minus feed = oneSource x) ∧
    (s.drop.contactGuard = false) ∧
    (s.power.joining ≠ none) :=
  ⟨{ State.reset with timeBase := 300, power := { Power.start with joining := some .a, src := ⟨.start, { SourceRun.start with presence := true, state := .activeClosing, switch := true, goodWatch := some 298 }, { SourceRun.start with presence := true, state := .standby }⟩ } }, 7, [3, 2, 1], .share, .b, ⟨false, true, true⟩, ⟨false, true, false⟩, by decide, by decide, by decide, by decide, by decide, by decide, by decide, by decide, by decide⟩

theorem test_meets_EvaluationActs_leaveJoining : ∃ (s : State) (tag : Byte) (p : List Byte) (policy : Policy) (_ : Source) (pref : SourceSet) (feed : SourceSet),
    (Ready 0x23 tag p s) ∧
    (p.length = 3) ∧
    (u8 p 2 ≤ 1) ∧
    (policy? (u8 p 0) = some policy) ∧
    (policy ≠ s.store.settings.power.policy) ∧
    (s.power.transfer = none) ∧
    (∀ z ∈ allSources, ((s.src z).state = .activeClosing ↔ s.power.joining.map baySource = some z) ∧
        ((s.src z).state.takesFaults = true → faultCondition (s.srcSettings z) s.pins z = none)) ∧
    (pref = s.power.preferred policy) ∧
    (feed = s.power.feeding) ∧
    (pref.isEmpty = false) ∧
    (pref ≠ feed) ∧
    (pref.within feed = true) :=
  ⟨{ State.reset with timeBase := 300, power := { Power.start with joining := some .a, src := ⟨.start, { SourceRun.start with presence := true, state := .activeClosing, switch := true, goodWatch := some 298 }, { SourceRun.start with presence := true, state := .activeOn, switch := true }⟩ } }, 7, [1, 2, 1], .drainAFirst, .a, ⟨false, true, false⟩, ⟨false, true, true⟩, by decide, by decide, by decide, by decide, by decide, by decide, by decide, by decide, by decide⟩

theorem test_meets_EvaluationActs_join : ∃ (s : State) (tag : Byte) (p : List Byte) (policy : Policy) (x : Source) (pref : SourceSet) (feed : SourceSet),
    (Ready 0x23 tag p s) ∧
    (p.length = 3) ∧
    (u8 p 2 ≤ 1) ∧
    (policy? (u8 p 0) = some policy) ∧
    (policy ≠ s.store.settings.power.policy) ∧
    (s.power.transfer = none) ∧
    (∀ z ∈ allSources, ((s.src z).state = .activeClosing ↔ s.power.joining.map baySource = some z) ∧
        ((s.src z).state.takesFaults = true → faultCondition (s.srcSettings z) s.pins z = none)) ∧
    (pref = s.power.preferred policy) ∧
    (feed = s.power.feeding) ∧
    (policy = .share) ∧
    (pref.dc = false) ∧
    (feed.dc = false) ∧
    (feed.isEmpty = false) ∧
    (∀ z ∈ allSources, (s.src z).state ≠ .releasingHeld) ∧
    (feed.within pref = true) ∧
    (pref.minus feed = oneSource x) ∧
    (s.drop.contactGuard = false) ∧
    (s.power.joining = none) ∧
    (s.pins.good.get x = false) :=
  ⟨{ State.reset with timeBase := 300, power := { Power.start with src := ⟨.start, { SourceRun.start with presence := true, state := .activeOn, switch := true }, { SourceRun.start with presence := true, state := .standby }⟩ } }, 7, [3, 2, 1], .share, .b, ⟨false, true, true⟩, ⟨false, true, false⟩, by decide, by decide, by decide, by decide, by decide, by decide, by decide, by decide, by decide⟩

theorem test_meets_EvaluationActs_joinConfirmed : ∃ (s : State) (tag : Byte) (p : List Byte) (policy : Policy) (x : Source) (pref : SourceSet) (feed : SourceSet),
    (Ready 0x23 tag p s) ∧
    (p.length = 3) ∧
    (u8 p 2 ≤ 1) ∧
    (policy? (u8 p 0) = some policy) ∧
    (policy ≠ s.store.settings.power.policy) ∧
    (s.power.transfer = none) ∧
    (∀ z ∈ allSources, ((s.src z).state = .activeClosing ↔ s.power.joining.map baySource = some z) ∧
        ((s.src z).state.takesFaults = true → faultCondition (s.srcSettings z) s.pins z = none)) ∧
    (pref = s.power.preferred policy) ∧
    (feed = s.power.feeding) ∧
    (policy = .share) ∧
    (pref.dc = false) ∧
    (feed.dc = false) ∧
    (feed.isEmpty = false) ∧
    (∀ z ∈ allSources, (s.src z).state ≠ .releasingHeld) ∧
    (feed.within pref = true) ∧
    (pref.minus feed = oneSource x) ∧
    (s.drop.contactGuard = false) ∧
    (s.power.joining = none) ∧
    (s.pins.good.get x = true) :=
  ⟨{ State.reset with timeBase := 300, pins := { Pins.released with good := ⟨true, true, true⟩ }, power := { Power.start with src := ⟨.start, { SourceRun.start with presence := true, state := .activeOn, switch := true }, { SourceRun.start with presence := true, state := .standby }⟩ } }, 7, [3, 2, 1], .share, .b, ⟨false, true, true⟩, ⟨false, true, false⟩, by decide, by decide, by decide, by decide, by decide, by decide, by decide, by decide, by decide⟩

theorem test_meets_EvaluationActs_joinDeferred : ∃ (s : State) (tag : Byte) (p : List Byte) (policy : Policy) (x : Source) (pref : SourceSet) (feed : SourceSet),
    (Ready 0x23 tag p s) ∧
    (p.length = 3) ∧
    (u8 p 2 ≤ 1) ∧
    (policy? (u8 p 0) = some policy) ∧
    (policy ≠ s.store.settings.power.policy) ∧
    (s.power.transfer = none) ∧
    (∀ z ∈ allSources, ((s.src z).state = .activeClosing ↔ s.power.joining.map baySource = some z) ∧
        ((s.src z).state.takesFaults = true → faultCondition (s.srcSettings z) s.pins z = none)) ∧
    (pref = s.power.preferred policy) ∧
    (feed = s.power.feeding) ∧
    (policy = .share) ∧
    (pref.dc = false) ∧
    (feed.dc = false) ∧
    (feed.isEmpty = false) ∧
    (∀ z ∈ allSources, (s.src z).state ≠ .releasingHeld) ∧
    (feed.within pref = true) ∧
    (pref.minus feed = oneSource x) ∧
    (s.drop.contactGuard = true) :=
  ⟨{ State.reset with timeBase := 300, drop := { Drop.start with contactGuard := true }, power := { Power.start with src := ⟨.start, { SourceRun.start with presence := true, state := .activeOn, switch := true }, { SourceRun.start with presence := true, state := .standby }⟩ } }, 7, [3, 2, 1], .share, .b, ⟨false, true, true⟩, ⟨false, true, false⟩, by decide, by decide, by decide, by decide, by decide, by decide, by decide, by decide, by decide⟩

theorem test_meets_EvaluationActs_planned : ∃ (s : State) (tag : Byte) (p : List Byte) (policy : Policy) (x : Source) (pref : SourceSet) (feed : SourceSet),
    (Ready 0x23 tag p s) ∧
    (p.length = 3) ∧
    (u8 p 2 ≤ 1) ∧
    (policy? (u8 p 0) = some policy) ∧
    (policy ≠ s.store.settings.power.policy) ∧
    (s.power.transfer = none) ∧
    (∀ z ∈ allSources, ((s.src z).state = .activeClosing ↔ s.power.joining.map baySource = some z) ∧
        ((s.src z).state.takesFaults = true → faultCondition (s.srcSettings z) s.pins z = none)) ∧
    (pref = s.power.preferred policy) ∧
    (feed = s.power.feeding) ∧
    (pref.within feed = false) ∧
    (policy ≠ .share ∨ pref.dc = true ∨ feed.dc = true ∨ feed.isEmpty = true ∨ feed.within pref = false ∨
        (pref.minus feed).size ≠ 1 ∨ (∃ z ∈ allSources, (s.src z).state = .releasingHeld)) ∧
    (firstChoice s.power policy (pref.minus feed) = some x) ∧
    (s.pins.good.get x = false) ∧
    (s.drop.contactGuard = false ∨ feed.size ≠ 1 ∨ (∃ z ∈ allSources, (s.src z).state = .releasingHeld)) :=
  ⟨{ State.reset with timeBase := 300, power := { Power.start with src := ⟨{ SourceRun.start with presence := true, state := .standby }, { SourceRun.start with presence := true, state := .activeOn, switch := true }, .start⟩ } }, 7, [1, 2, 1], .drainAFirst, .dc, ⟨true, false, false⟩, ⟨false, true, false⟩, by decide, by decide, by decide, by decide, by decide, by decide, by decide, by decide, by decide⟩

theorem test_meets_EvaluationActs_plannedConfirmed : ∃ (s : State) (tag : Byte) (p : List Byte) (policy : Policy) (x : Source) (pref : SourceSet) (feed : SourceSet),
    (Ready 0x23 tag p s) ∧
    (p.length = 3) ∧
    (u8 p 2 ≤ 1) ∧
    (policy? (u8 p 0) = some policy) ∧
    (policy ≠ s.store.settings.power.policy) ∧
    (s.power.transfer = none) ∧
    (∀ z ∈ allSources, ((s.src z).state = .activeClosing ↔ s.power.joining.map baySource = some z) ∧
        ((s.src z).state.takesFaults = true → faultCondition (s.srcSettings z) s.pins z = none)) ∧
    (pref = s.power.preferred policy) ∧
    (feed = s.power.feeding) ∧
    (pref.within feed = false) ∧
    (policy ≠ .share ∨ pref.dc = true ∨ feed.dc = true ∨ feed.isEmpty = true ∨ feed.within pref = false ∨
        (pref.minus feed).size ≠ 1 ∨ (∃ z ∈ allSources, (s.src z).state = .releasingHeld)) ∧
    (firstChoice s.power policy (pref.minus feed) = some x) ∧
    (feed.isEmpty = false) ∧
    (s.pins.good.get x = true) ∧
    (s.drop.contactGuard = false ∨ feed.size ≠ 1 ∨ (∃ z ∈ allSources, (s.src z).state = .releasingHeld)) :=
  ⟨{ State.reset with timeBase := 300, pins := { Pins.released with good := ⟨true, true, true⟩ }, power := { Power.start with src := ⟨{ SourceRun.start with presence := true, state := .standby }, { SourceRun.start with presence := true, state := .activeOn, switch := true }, .start⟩ } }, 7, [1, 2, 1], .drainAFirst, .dc, ⟨true, false, false⟩, ⟨false, true, false⟩, by decide, by decide, by decide, by decide, by decide, by decide, by decide, by decide, by decide⟩

theorem test_meets_EvaluationActs_plannedDeferred : ∃ (s : State) (tag : Byte) (p : List Byte) (policy : Policy) (x : Source) (pref : SourceSet) (feed : SourceSet),
    (Ready 0x23 tag p s) ∧
    (p.length = 3) ∧
    (u8 p 2 ≤ 1) ∧
    (policy? (u8 p 0) = some policy) ∧
    (policy ≠ s.store.settings.power.policy) ∧
    (s.power.transfer = none) ∧
    (∀ z ∈ allSources, ((s.src z).state = .activeClosing ↔ s.power.joining.map baySource = some z) ∧
        ((s.src z).state.takesFaults = true → faultCondition (s.srcSettings z) s.pins z = none)) ∧
    (pref = s.power.preferred policy) ∧
    (feed = s.power.feeding) ∧
    (pref.within feed = false) ∧
    (policy ≠ .share ∨ pref.dc = true ∨ feed.dc = true ∨ feed.isEmpty = true ∨ feed.within pref = false ∨
        (pref.minus feed).size ≠ 1 ∨ (∃ z ∈ allSources, (s.src z).state = .releasingHeld)) ∧
    (firstChoice s.power policy (pref.minus feed) = some x) ∧
    (s.drop.contactGuard = true) ∧
    (feed.size = 1) ∧
    (∀ z ∈ allSources, (s.src z).state ≠ .releasingHeld) :=
  ⟨{ State.reset with timeBase := 300, drop := { Drop.start with contactGuard := true }, power := { Power.start with src := ⟨{ SourceRun.start with presence := true, state := .standby }, { SourceRun.start with presence := true, state := .activeOn, switch := true }, .start⟩ } }, 7, [1, 2, 1], .drainAFirst, .dc, ⟨true, false, false⟩, ⟨false, true, false⟩, by decide, by decide, by decide, by decide, by decide, by decide, by decide, by decide, by decide⟩

theorem test_meets_CandidatesTried_next : ∃ (s : State) (x : Source) (y : Source) (_ : Bay) (gone : SourceState) (cmd : Instr) (tr : Transfer),
    (s.supply = .run) ∧
    (s.power.transfer = some tr) ∧
    (tr.incoming = x) ∧
    (IncomingLeaves x cmd gone s) ∧
    (tr.outgoing.get x = false) ∧
    ((∀ k ∈ allBays, cmd ≠ .latchDebounceExpiry k) ∨ (∃ z ∈ allSources, tr.outgoing.get z = true ∧ (s.src z).state.closed = true)) ∧
    (firstChoice s.power s.store.settings.power.policy (candidates s.power tr.outgoing tr.tried) = some y) ∧
    (faultCondition (s.srcSettings y) s.pins y = none) ∧
    (s.pins.good.get y = false) :=
  ⟨{ State.reset with timeBase := 300, power := { Power.start with transfer := some ⟨.planned, oneSource .a, .dc, .closingIncoming, 295, oneSource .dc⟩, src := ⟨{ SourceRun.start with presence := true, state := .activeClosing, switch := true, goodWatch := some 295 }, { SourceRun.start with presence := true, state := .activeOn, switch := true }, { SourceRun.start with presence := true, state := .standby }⟩ } }, .dc, .b, .a, .fault .switchFault, .switchWatchExpiry .dc, ⟨.planned, oneSource .a, .dc, .closingIncoming, 295, oneSource .dc⟩, by decide, by decide, by decide, by decide, by decide, by decide, by decide, by decide, by decide⟩

theorem test_meets_CandidatesTried_nextAfterLatch : ∃ (s : State) (x : Source) (y : Source) (bay : Bay) (gone : SourceState) (cmd : Instr) (tr : Transfer),
    (s.supply = .run) ∧
    (s.power.transfer = some tr) ∧
    (tr.incoming = x) ∧
    (IncomingLeaves x cmd gone s) ∧
    (tr.outgoing.get x = false) ∧
    ((∀ k ∈ allBays, cmd ≠ .latchDebounceExpiry k) ∨ (∃ z ∈ allSources, tr.outgoing.get z = true ∧ (s.src z).state.closed = true)) ∧
    (firstChoice s.power s.store.settings.power.policy (candidates s.power tr.outgoing tr.tried) = some y) ∧
    (faultCondition (s.srcSettings y) s.pins y = none) ∧
    (s.pins.good.get y = false) ∧
    (cmd = .latchDebounceExpiry bay) :=
  ⟨{ State.reset with timeBase := 300, power := { Power.start with transfer := some ⟨.planned, oneSource .b, .a, .closingIncoming, 295, oneSource .a⟩, src := ⟨{ SourceRun.start with presence := true, state := .standby }, { SourceRun.start with presence := true, state := .activeClosing, switch := true, goodWatch := some 297, pendingLatch := some 298 }, { SourceRun.start with presence := true, state := .activeOn, switch := true }⟩ } }, .a, .dc, .a, .releasingOpen, .latchDebounceExpiry .a, ⟨.planned, oneSource .b, .a, .closingIncoming, 295, oneSource .a⟩, by decide, by decide, by decide, by decide, by decide, by decide, by decide, by decide, by decide⟩

theorem test_meets_CandidatesTried_nextConfirmed : ∃ (s : State) (x : Source) (y : Source) (_ : Bay) (gone : SourceState) (cmd : Instr) (tr : Transfer),
    (s.supply = .run) ∧
    (s.power.transfer = some tr) ∧
    (tr.incoming = x) ∧
    (IncomingLeaves x cmd gone s) ∧
    (tr.outgoing.get x = false) ∧
    ((∀ k ∈ allBays, cmd ≠ .latchDebounceExpiry k) ∨ (∃ z ∈ allSources, tr.outgoing.get z = true ∧ (s.src z).state.closed = true)) ∧
    (firstChoice s.power s.store.settings.power.policy (candidates s.power tr.outgoing tr.tried) = some y) ∧
    (faultCondition (s.srcSettings y) s.pins y = none) ∧
    (s.pins.good.get y = true) ∧
    (∃ z ∈ allSources, z ≠ x ∧ tr.outgoing.get z = true ∧ (s.src z).state.closed = true) :=
  ⟨{ State.reset with timeBase := 300, pins := { Pins.released with good := ⟨true, true, true⟩ }, power := { Power.start with transfer := some ⟨.planned, oneSource .a, .dc, .closingIncoming, 295, oneSource .dc⟩, src := ⟨{ SourceRun.start with presence := true, state := .activeClosing, switch := true, goodWatch := some 295 }, { SourceRun.start with presence := true, state := .activeOn, switch := true }, { SourceRun.start with presence := true, state := .standby }⟩ } }, .dc, .b, .a, .fault .switchFault, .switchWatchExpiry .dc, ⟨.planned, oneSource .a, .dc, .closingIncoming, 295, oneSource .dc⟩, by decide, by decide, by decide, by decide, by decide, by decide, by decide, by decide, by decide⟩

theorem test_meets_CandidatesTried_failed : ∃ (s : State) (x : Source) (_ : Source) (_ : Bay) (gone : SourceState) (cmd : Instr) (tr : Transfer),
    (s.supply = .run) ∧
    (s.power.transfer = some tr) ∧
    (tr.incoming = x) ∧
    (IncomingLeaves x cmd gone s) ∧
    (tr.outgoing.get x = false) ∧
    ((∀ k ∈ allBays, cmd ≠ .latchDebounceExpiry k) ∨ (∃ z ∈ allSources, tr.outgoing.get z = true ∧ (s.src z).state.closed = true)) ∧
    (firstChoice s.power s.store.settings.power.policy (candidates s.power tr.outgoing tr.tried) = none) ∧
    (s.power.joining = none) ∧
    ((allSources.filter fun z => z != x && (s.src z).state.closed).length ≤ 1) ∧
    (∀ z ∈ allSources, z ≠ x → (s.src z).state ≠ .standby ∧ (s.src z).state ≠ .activeClosing) :=
  ⟨{ State.reset with timeBase := 300, power := { Power.start with transfer := some ⟨.planned, oneSource .a, .dc, .closingIncoming, 295, oneSource .dc⟩, src := ⟨{ SourceRun.start with presence := true, state := .activeClosing, switch := true, goodWatch := some 295 }, { SourceRun.start with presence := true, state := .activeOn, switch := true }, .start⟩ } }, .dc, .b, .a, .fault .switchFault, .switchWatchExpiry .dc, ⟨.planned, oneSource .a, .dc, .closingIncoming, 295, oneSource .dc⟩, by decide, by decide, by decide, by decide, by decide, by decide, by decide, by decide, by decide⟩

theorem test_meets_CandidatesTried_noReserve : ∃ (s : State) (x : Source) (_ : Source) (_ : Bay) (gone : SourceState) (cmd : Instr) (tr : Transfer),
    (s.supply = .run) ∧
    (s.power.transfer = some tr) ∧
    (tr.incoming = x) ∧
    (IncomingLeaves x cmd gone s) ∧
    (tr.outgoing.get x = false) ∧
    ((∀ k ∈ allBays, cmd ≠ .latchDebounceExpiry k) ∨ (∃ z ∈ allSources, tr.outgoing.get z = true ∧ (s.src z).state.closed = true)) ∧
    (firstChoice s.power s.store.settings.power.policy (candidates s.power tr.outgoing tr.tried) = none) ∧
    (s.power.joining = none) ∧
    ((allSources.filter fun z => z != x && (s.src z).state.closed).length ≤ 1) ∧
    (∀ z ∈ allSources, z ≠ x → (s.src z).state ≠ .standby ∧ (s.src z).state ≠ .activeClosing) ∧
    (∀ z ∈ allSources, z ≠ x → (s.src z).state.closed = false) :=
  ⟨{ State.reset with timeBase := 300, power := { Power.start with transfer := some ⟨.breakLoad, noSources, .a, .closingIncoming, 295, oneSource .a⟩, src := ⟨.start, { SourceRun.start with presence := true, state := .activeClosing, switch := true, goodWatch := some 295, pendingPresence := some 295 }, .start⟩ } }, .a, .b, .a, .absent, .presenceHoldExpiry .a, ⟨.breakLoad, noSources, .a, .closingIncoming, 295, oneSource .a⟩, by decide, by decide, by decide, by decide, by decide, by decide, by decide, by decide, by decide⟩

theorem test_meets_CandidatesTried_held : ∃ (s : State) (x : Source) (_ : Source) (bay : Bay) (_ : SourceState) (_ : Instr) (tr : Transfer),
    (s.supply = .run) ∧
    (s.power.transfer = some tr) ∧
    (tr.incoming = x) ∧
    (x = baySource bay) ∧
    ((s.src x).state = .activeClosing) ∧
    ((s.src x).goodWatch.isSome = true) ∧
    ((s.src x).latchOpen = false) ∧
    (reachedSince s (s.src x).pendingLatch 2 = true) ∧
    (faultCondition (s.srcSettings x) s.pins x = none) ∧
    ((∀ z ∈ allSources, tr.outgoing.get z = true → (s.src z).state.closed = false)) :=
  ⟨{ State.reset with timeBase := 300, power := { Power.start with transfer := some ⟨.breakLoad, noSources, .a, .closingIncoming, 295, oneSource .a⟩, src := ⟨.start, { SourceRun.start with presence := true, state := .activeClosing, switch := true, goodWatch := some 295, pendingLatch := some 298 }, .start⟩ } }, .a, .b, .a, .absent, .presenceHoldExpiry .a, ⟨.breakLoad, noSources, .a, .closingIncoming, 295, oneSource .a⟩, by decide, by decide, by decide, by decide, by decide, by decide, by decide, by decide, by decide⟩

theorem test_meets_CandidatesTried_heldConfirms : ∃ (s : State) (x : Source) (_ : Source) (_ : Bay) (_ : SourceState) (_ : Instr) (tr : Transfer),
    (s.supply = .run) ∧
    (s.power.transfer = some tr) ∧
    (tr.incoming = x) ∧
    ((s.src x).state = .releasingHeld) ∧
    ((s.src x).goodWatch.isSome = true) ∧
    (s.power.joining = none) ∧
    (∀ z ∈ allSources, (s.src z).state.eligible = false) ∧
    ((∀ z ∈ allSources, tr.outgoing.get z = true → (s.src z).state.closed = false)) :=
  ⟨{ State.reset with timeBase := 300, power := { Power.start with transfer := some ⟨.breakLoad, noSources, .a, .closingIncoming, 295, oneSource .a⟩, src := ⟨.start, { SourceRun.start with presence := true, state := .releasingHeld, switch := true, latchOpen := true, goodWatch := some 298 }, .start⟩ } }, .a, .b, .a, .absent, .presenceHoldExpiry .a, ⟨.breakLoad, noSources, .a, .closingIncoming, 295, oneSource .a⟩, by decide, by decide, by decide, by decide, by decide, by decide, by decide, by decide⟩

theorem test_meets_CandidatesTried_outgoingLost : ∃ (s : State) (x : Source) (y : Source) (_ : Bay) (_ : SourceState) (_ : Instr) (tr : Transfer),
    (s.supply = .run) ∧
    (s.power.transfer = some tr) ∧
    (tr.incoming = x) ∧
    ((s.src x).state = .activeOn) ∧
    (tr.outgoing.get x = false) ∧
    (y ≠ x) ∧
    (tr.outgoing.get y = true) ∧
    ((s.src y).state.closed = true) ∧
    ((s.src y).presence = true) ∧
    (reachedSince s (s.src y).pendingPresence (holdTime y s) = true) ∧
    (s.power.joining = none) ∧
    (∀ z ∈ allSources, z ≠ x → z ≠ y → (s.src z).state.closed = false ∧ (s.src z).state ≠ .standby) :=
  ⟨{ State.reset with timeBase := 300, power := { Power.start with transfer := some ⟨.planned, oneSource .a, .dc, .overlap ⟨299, 2⟩, 295, oneSource .dc⟩, src := ⟨{ SourceRun.start with presence := true, state := .activeOn, switch := true }, { SourceRun.start with presence := true, state := .activeOn, switch := true, pendingPresence := some 280 }, .start⟩ } }, .dc, .a, .a, .absent, .presenceHoldExpiry .a, ⟨.planned, oneSource .a, .dc, .overlap ⟨299, 2⟩, 295, oneSource .dc⟩, by decide, by decide, by decide, by decide, by decide, by decide, by decide, by decide, by decide⟩

theorem test_meets_PreferredSetChosen_joining : ∃ (p : Power) (policy : Policy),
    (p.joining = some .b) ∧
    (p.src.a.state = .activeOn) ∧
    (policy = .drainLower) :=
  ⟨{ Power.start with joining := some .b, src := ⟨.start, { SourceRun.start with state := .activeOn }, { SourceRun.start with state := .activeClosing }⟩ }, .drainLower, by decide, by decide, by decide⟩

theorem test_meets_LocksMove_retain : ∃ (s : State) (_ : Bay) (_ : Bool) (_ : Moment) (_ : Byte) (_ : List Byte),
    (s.supply ≠ .run) :=
  ⟨{ State.reset with supply := .retain none }, .a, true, 26, 7, [], by decide⟩

theorem test_meets_LocksMove_sense : ∃ (s : State) (bay : Bay) (_ : Bool) (m : Moment) (_ : Byte) (_ : List Byte),
    (s.supply = .run) ∧
    ((s.locks.get bay).pendingSense = some m) ∧
    (2 ≤ (s.timeBase - m).toNat) :=
  ⟨{ State.reset with locks := ⟨{ BayLock.start with reasons := ⟨false, false, false, true⟩, drive := true, state := .engaging 20, pendingSense := some 26 }, .start⟩ }, .a, true, 26, 7, [], by decide, by decide, by decide⟩

theorem test_meets_LocksMove_window : ∃ (s : State) (bay : Bay) (_ : Bool) (m : Moment) (_ : Byte) (_ : List Byte),
    (s.supply = .run) ∧
    ((s.locks.get bay).state = .engaging m ∨ (s.locks.get bay).state = .unlocking m) ∧
    (50 ≤ (s.timeBase - m).toNat) :=
  ⟨{ State.reset with timeBase := 70, locks := ⟨{ BayLock.start with reasons := ⟨false, false, false, true⟩, drive := true, state := .engaging 20 }, .start⟩ }, .a, true, 20, 7, [], by decide, by decide, by decide⟩

theorem test_meets_LocksMove_host : ∃ (s : State) (_ : Bay) (_ : Bool) (_ : Moment) (tag : Byte) (p : List Byte),
    (Ready 0x28 tag p s) ∧
    (p.length = 2) ∧
    (malformed 0x28 p = false) :=
  ⟨State.reset, .a, true, 0, 7, [6, 1], by decide, by decide, by decide⟩

theorem test_meets_LocksMove_retry : ∃ (s : State) (_ : Bay) (_ : Bool) (_ : Moment) (tag : Byte) (p : List Byte),
    (Ready 0x2A tag p s) ∧
    (p.length = 1) ∧
    (malformed 0x2A p = false) :=
  ⟨{ State.reset with locks := ⟨{ BayLock.start with state := .jammed .release, sense := true }, .start⟩ }, .a, true, 0, 7, [2], by decide, by decide, by decide⟩

theorem test_meets_AmbientFrontEnd_retain : ∃ (s : State) (_ : Bool) (_ : Moment) (_ : Byte) (_ : List Byte) (_ : BitVec 12),
    (s.supply ≠ .run) :=
  ⟨{ State.reset with supply := .retain none }, true, 0, 7, [], 0, by decide⟩

theorem test_meets_AmbientFrontEnd_closes : ∃ (s : State) (_ : Bool) (m : Moment) (_ : Byte) (_ : List Byte) (_ : BitVec 12),
    (s.supply = .run) ∧
    (s.ambient.pendingLid = some m) ∧
    (30 ≤ (s.timeBase - m).toNat) ∧
    (s.ambient.lidClosed = false) :=
  ⟨{ State.reset with timeBase := 50, ambient := { Ambient.start with pendingLid := some 20 } }, true, 20, 7, [], 0, by decide, by decide, by decide, by decide⟩

theorem test_meets_AmbientFrontEnd_opens : ∃ (s : State) (_ : Bool) (m : Moment) (_ : Byte) (_ : List Byte) (_ : BitVec 12),
    (s.supply = .run) ∧
    (s.ambient.pendingLid = some m) ∧
    (30 ≤ (s.timeBase - m).toNat) ∧
    (s.ambient.lidClosed = true) :=
  ⟨{ State.reset with timeBase := 50, ambient := { Ambient.start with lidClosed := true, pendingLid := some 20 } }, true, 20, 7, [], 0, by decide, by decide, by decide, by decide⟩

theorem test_meets_AmbientFrontEnd_set : ∃ (s : State) (_ : Bool) (_ : Moment) (tag : Byte) (p : List Byte) (_ : BitVec 12),
    (Ready 0x30 tag p s) ∧
    (p.length = 6) ∧
    (u8 p 1 ≤ 1) :=
  ⟨{ State.reset with ambient := { Ambient.start with validity := .invalid } }, true, 0, 7, [7, 1, 100, 0, 0, 0], 0, by decide, by decide, by decide⟩

theorem test_meets_AmbientFrontEnd_reading : ∃ (s : State) (_ : Bool) (_ : Moment) (_ : Byte) (_ : List Byte) (_ : BitVec 12),
    (s.supply = .run) ∧
    (s.scanner.conv = .slot 5 []) ∧
    (s.store.settings.scan.slots[5].kind = .single) ∧
    (s.scanner.ref = .normal) ∧
    (s.ambient.lidClosed = false) ∧
    (s.ambient.discard = false) :=
  ⟨{ State.reset with scanner := { Scanner.start with conv := .slot 5 [] } }, true, 0, 7, [], 3800, by decide, by decide, by decide, by decide, by decide, by decide⟩

theorem test_meets_AmbientFrontEnd_flagged : ∃ (s : State) (_ : Bool) (_ : Moment) (_ : Byte) (_ : List Byte) (_ : BitVec 12),
    (s.supply = .run) ∧
    (s.scanner.conv = .slot 5 []) ∧
    (s.store.settings.scan.slots[5].kind = .single) ∧
    (s.scanner.ref = .degraded) ∧
    (s.ambient.lidClosed = false) ∧
    (s.ambient.discard = true) :=
  ⟨{ State.reset with ambient := { Ambient.start with discard := true }, scanner := { Scanner.start with conv := .slot 5 [], ref := .degraded } }, true, 0, 7, [], 3800, by decide, by decide, by decide, by decide, by decide, by decide⟩

theorem test_meets_AmbientFrontEnd_opensInvalid : ∃ (s : State) (_ : Bool) (m : Moment) (_ : Byte) (_ : List Byte) (_ : BitVec 12),
    (s.supply = .run) ∧
    (s.ambient.pendingLid = some m) ∧
    (30 ≤ (s.timeBase - m).toNat) ∧
    (s.ambient.lidClosed = true) ∧
    (s.ambient.validity = .invalid) ∧
    (s.store.settings.ambient.fallback = .fixed) :=
  ⟨{ State.reset with timeBase := 50, ambient := { Ambient.start with lidClosed := true, pendingLid := some 20, validity := .invalid }, store := Store.withWord { Store.cold with settings := { Settings.cold with ambient := { AmbientSettings.cold with fallback := .fixed } } } }, true, 20, 7, [], 0, by decide, by decide, by decide, by decide, by decide, by decide⟩

theorem test_meets_RampTicks_up : ∃ (s : State) (target : Nat),
    (s.supply = .run) ∧
    (BacklightWf s) ∧
    (10 ≤ (s.timeBase - s.backlight.rampSince).toNat) ∧
    (s.backlight.lidClosed = false) ∧
    (s.store.settings.backlight.scalars.mode ≠ .off) ∧
    (s.backlight.target = some target) :=
  ⟨{ State.reset with timeBase := 38, backlight := { State.reset.backlight with target := some 3, binding := true } }, 3, by decide, by decide, by decide, by decide, by decide, by decide⟩

theorem test_meets_RampTicks_unset : ∃ (s : State) (_ : Nat),
    (s.supply = .run) ∧
    (BacklightWf s) ∧
    (10 ≤ (s.timeBase - s.backlight.rampSince).toNat) ∧
    (s.backlight.target = none) :=
  ⟨{ State.reset with timeBase := 38 }, 3, by decide, by decide, by decide, by decide⟩

theorem test_meets_RampTicks_early : ∃ (s : State) (_ : Nat),
    (s.supply = .run) ∧
    ((s.timeBase - s.backlight.rampSince).toNat < 10) :=
  ⟨State.reset, 3, by decide, by decide⟩

theorem test_meets_RampTicks_stopped : ∃ (s : State) (_ : Nat),
    (s.supply ≠ .run) :=
  ⟨{ State.reset with supply := .unpowered }, 3, by decide⟩

theorem test_meets_SetBacklightStores : ∃ (s : State) (tag : Byte) (p : List Byte) (mode : BacklightMode),
    (Ready 0x33 tag p s) ∧
    (p.length = 19) ∧
    (u8 p 0 = mode.code) ∧
    (BacklightWf s) ∧
    (max (-400) (min (s16 p 11) 1500) < max (-400) (min (s16 p 13) 1500)) :=
  ⟨State.reset, 7, [1, 244, 1, 0, 0, 20, 4, 120, 0, 255, 15, 88, 2, 238, 2, 94, 1, 88, 2], .manual, by decide, by decide, by decide, by decide, by decide⟩

theorem test_meets_CurveAndReport_setCurveReplaces : ∃ (s : State) (tag : Byte) (p : List Byte),
    (Ready 0x31 tag p s) ∧
    (p.length = 1 + 4 * u8 p 0) ∧
    (malformed 0x31 p = false) ∧
    (BacklightWf s) :=
  ⟨State.reset, 7, [2, 10, 0, 0, 0, 255, 255, 255, 255], by decide, by decide, by decide, by decide⟩

theorem test_meets_CurveAndReport_getBacklightReports : ∃ (s : State) (tag : Byte) (_ : List Byte),
    (Ready 0x34 tag [] s) :=
  ⟨State.reset, 7, [], by decide⟩

theorem test_meets_SetCapsStores : ∃ (s : State) (tag : Byte) (p : List Byte),
    (Ready 0x35 tag p s) ∧
    (p.length = 10) ∧
    (BacklightWf s) :=
  ⟨State.reset, 7, [232, 3, 233, 3, 0, 0, 0, 0, 100, 0], by decide, by decide, by decide⟩

theorem test_meets_SetMotionStores : ∃ (s : State) (tag : Byte) (p : List Byte) (rate : Rate),
    (Ready 0x40 tag p s) ∧
    (p.length = 17) ∧
    (u8 p 0 ≤ 1) ∧
    (rate? (u8 p 1) = some rate) ∧
    (MotionWf s) ∧
    (DropWf s) :=
  ⟨State.reset, 7, [1, 1, 8, 125, 0, 48, 94, 1, 172, 13, 60, 16, 50, 244, 1, 220, 5], .r800, by decide, by decide, by decide, by decide, by decide, by decide⟩

theorem test_meets_SetMotionStores_off : ∃ (s : State) (tag : Byte) (p : List Byte) (rate : Rate),
    (Ready 0x40 tag p s) ∧
    (p.length = 17) ∧
    (u8 p 0 ≤ 1) ∧
    (rate? (u8 p 1) = some rate) ∧
    (MotionWf s) ∧
    (DropWf s) :=
  ⟨State.reset, 7, [0, 1, 8, 125, 0, 48, 94, 1, 172, 13, 60, 16, 50, 244, 1, 220, 5], .r800, by decide, by decide, by decide, by decide, by decide, by decide⟩

theorem test_meets_SetMotionStores_afresh : ∃ (s : State) (tag : Byte) (p : List Byte) (rate : Rate),
    (Ready 0x40 tag p s) ∧
    (p.length = 17) ∧
    (u8 p 0 ≤ 1) ∧
    (rate? (u8 p 1) = some rate) ∧
    (MotionWf s) ∧
    (DropWf s) :=
  ⟨State.reset, 7, [1, 2, 8, 125, 0, 48, 94, 1, 172, 13, 60, 16, 50, 244, 1, 220, 5], .r1600, by decide, by decide, by decide, by decide, by decide, by decide⟩

theorem test_meets_SetMotionStores_owed : ∃ (s : State) (tag : Byte) (p : List Byte) (rate : Rate),
    (Ready 0x40 tag p s) ∧
    (p.length = 17) ∧
    (u8 p 0 ≤ 1) ∧
    (rate? (u8 p 1) = some rate) ∧
    (MotionWf s) ∧
    (DropWf s) ∧
    (s.owedOffList ≠ []) :=
  ⟨{ State.reset with store := Store.withWord { Store.cold with settings := { Settings.cold with motion := { MotionSettings.cold with check := { MotionSettings.cold.check with offList := [⟨1, 2⟩] } } } }, motion := { State.reset.motion with port := .checking, check := { CheckRun.start with phase := .on } } }, 7, [0, 1, 8, 125, 0, 48, 94, 1, 172, 13, 60, 16, 50, 244, 1, 220, 5], .r800, by decide, by decide, by decide, by decide, by decide, by decide, by decide⟩

theorem test_meets_SetMotionStores_back : ∃ (s : State) (tag : Byte) (p : List Byte) (rate : Rate),
    (Ready 0x40 tag p s) ∧
    (p.length = 17) ∧
    (u8 p 0 ≤ 1) ∧
    (rate? (u8 p 1) = some rate) ∧
    (MotionWf s) ∧
    (DropWf s) ∧
    (s.motion.port = .checking) :=
  ⟨{ State.reset with motion := { State.reset.motion with port := .checking } }, 7, [1, 1, 9, 125, 0, 48, 94, 1, 172, 13, 60, 16, 50, 244, 1, 220, 5], .r800, by decide, by decide, by decide, by decide, by decide, by decide, by decide⟩

theorem test_meets_SetSetupListStores : ∃ (s : State) (tag : Byte) (p : List Byte),
    (Ready 0x41 tag p s) ∧
    (p.length = 1 + 4 * u8 p 0) ∧
    (malformed 0x41 p = false) ∧
    (MotionWf s) ∧
    (DropWf s) :=
  ⟨State.reset, 7, [0], by decide, by decide, by decide, by decide, by decide⟩

theorem test_meets_SetSetupListStores_list : ∃ (s : State) (tag : Byte) (p : List Byte),
    (Ready 0x41 tag p s) ∧
    (p.length = 1 + 4 * u8 p 0) ∧
    (malformed 0x41 p = false) ∧
    (MotionWf s) ∧
    (DropWf s) :=
  ⟨State.reset, 7, [2, 0, 200, 5, 0, 2, 0, 0, 0], by decide, by decide, by decide, by decide, by decide⟩

theorem test_meets_SetSetupListStores_checking : ∃ (s : State) (tag : Byte) (p : List Byte),
    (Ready 0x41 tag p s) ∧
    (p.length = 1 + 4 * u8 p 0) ∧
    (malformed 0x41 p = false) ∧
    (MotionWf s) ∧
    (DropWf s) ∧
    (s.motion.port = .checking) :=
  ⟨{ State.reset with motion := { State.reset.motion with port := .checking } }, 7, [0], by decide, by decide, by decide, by decide, by decide, by decide⟩

theorem test_meets_SetSetupListStores_owed : ∃ (s : State) (tag : Byte) (p : List Byte),
    (Ready 0x41 tag p s) ∧
    (p.length = 1 + 4 * u8 p 0) ∧
    (malformed 0x41 p = false) ∧
    (MotionWf s) ∧
    (DropWf s) ∧
    (s.owedOffList ≠ []) :=
  ⟨{ State.reset with store := Store.withWord { Store.cold with settings := { Settings.cold with motion := { MotionSettings.cold with check := { MotionSettings.cold.check with offList := [⟨1, 2⟩] } } } }, motion := { State.reset.motion with port := .checking, check := { CheckRun.start with phase := .on } } }, 7, [1, 2, 9, 0, 0], by decide, by decide, by decide, by decide, by decide, by decide⟩

theorem test_meets_SetSetupListStores_off : ∃ (s : State) (tag : Byte) (p : List Byte),
    (Ready 0x41 tag p s) ∧
    (p.length = 1 + 4 * u8 p 0) ∧
    (malformed 0x41 p = false) ∧
    (MotionWf s) ∧
    (DropWf s) ∧
    (s.motion.port = .off) :=
  ⟨{ State.reset with motion := Motion.start, store := { Store.cold with settings := { Settings.cold with motion := { MotionSettings.cold with scalars := { MotionScalars.cold with enable := false } } } } }, 7, [0], by decide, by decide, by decide, by decide, by decide, by decide⟩

theorem test_meets_CheckRequests_checking : ∃ (s : State) (tag : Byte) (p : List Byte),
    (Ready 0x42 tag p s) ∧
    (p.length = 8 + 2 * (u8 p 0 + u8 p (1 + 2 * u8 p 0))) ∧
    (malformed 0x42 p = false) ∧
    (s.motion.port = .checking) :=
  ⟨{ State.reset with motion := { State.reset.motion with port := .checking } }, 7, [0, 0, 0, 0, 0, 0, 0, 0], by decide, by decide, by decide, by decide⟩

theorem test_meets_CheckRequests_lists : ∃ (s : State) (tag : Byte) (p : List Byte),
    (Ready 0x42 tag p s) ∧
    (p.length = 8 + 2 * (u8 p 0 + u8 p (1 + 2 * u8 p 0))) ∧
    (malformed 0x42 p = false) ∧
    (s.motion.port ≠ .checking) :=
  ⟨State.reset, 7, [1, 128, 5, 1, 6, 7, 255, 255, 0, 0, 1, 0], by decide, by decide, by decide, by decide⟩

theorem test_meets_CheckRequests_taken : ∃ (s : State) (tag : Byte) (_ : List Byte),
    (Ready 0x43 tag [] s) ∧
    (s.motion.port = .streaming) ∧
    (s.drop.state = .calm) :=
  ⟨{ State.reset with drop := { Drop.start with state := .calm } }, 7, [], by decide, by decide, by decide⟩

theorem test_meets_CheckRequests_refused : ∃ (s : State) (tag : Byte) (_ : List Byte),
    (Ready 0x43 tag [] s) ∧
    ((s.motion.port ≠ .streaming ∨ s.drop.state ≠ .calm)) :=
  ⟨State.reset, 7, [], by decide, by decide⟩

theorem test_meets_SetupRun_next : ∃ (s : State) (byte : Byte) (entry : SetupEntry) (next : SetupEntry) (_ : Moment) (_ : Nat) (sent : List Byte) (_ : List ListWrite),
    (s.supply = .run) ∧
    (MotionWf s) ∧
    (DropWf s) ∧
    (s.motion.port = .setup) ∧
    (s.motion.bus = .setupTransfer sent) ∧
    (s.store.settings.motion.setupList[s.motion.setup.entry]? = some entry) ∧
    ((match entry with
        | .write _ _ => true
        | .check _ expected mask => (byte ^^^ expected) &&& mask == 0
        | .wait _ => false) = true) ∧
    (s.store.settings.motion.setupList[s.motion.setup.entry + 1]? = some next) :=
  ⟨{ State.reset with timeBase := 28, store := { Store.cold with settings := { Settings.cold with motion := { MotionSettings.cold with setupList := [.write 1 2, .wait 7] } } }, motion := { Motion.start with port := .setup, bus := .setupTransfer [5] } }, 0, .write 1 2, .wait 7, 0, 7, [5], [], by decide, by decide, by decide, by decide, by decide, by decide, by decide, by decide⟩

theorem test_meets_SetupRun_last : ∃ (s : State) (byte : Byte) (entry : SetupEntry) (_ : SetupEntry) (_ : Moment) (_ : Nat) (sent : List Byte) (_ : List ListWrite),
    (s.supply = .run) ∧
    (MotionWf s) ∧
    (DropWf s) ∧
    (s.motion.port = .setup) ∧
    (s.motion.bus = .setupTransfer sent) ∧
    (s.store.settings.motion.setupList[s.motion.setup.entry]? = some entry) ∧
    ((match entry with
        | .write _ _ => true
        | .check _ expected mask => (byte ^^^ expected) &&& mask == 0
        | .wait _ => false) = true) ∧
    (s.store.settings.motion.setupList[s.motion.setup.entry + 1]? = none) :=
  ⟨{ State.reset with timeBase := 28, store := { Store.cold with settings := { Settings.cold with motion := { MotionSettings.cold with setupList := [.check 1 2 3] } } }, motion := { Motion.start with port := .setup, bus := .setupTransfer [5] } }, 6, .check 1 2 3, .wait 7, 0, 7, [5], [], by decide, by decide, by decide, by decide, by decide, by decide, by decide, by decide⟩

theorem test_meets_SetupRun_fails : ∃ (s : State) (byte : Byte) (entry : SetupEntry) (_ : SetupEntry) (_ : Moment) (_ : Nat) (sent : List Byte) (_ : List ListWrite),
    (s.supply = .run) ∧
    (MotionWf s) ∧
    (DropWf s) ∧
    (s.motion.port = .setup) ∧
    (s.motion.bus = .setupTransfer sent) ∧
    (s.store.settings.motion.setupList[s.motion.setup.entry]? = some entry) ∧
    ((match entry with | .check _ expected mask => (byte ^^^ expected) &&& mask != 0 | _ => false) = true) :=
  ⟨{ State.reset with timeBase := 28, store := { Store.cold with settings := { Settings.cold with motion := { MotionSettings.cold with setupList := [.check 1 2 3] } } }, motion := { Motion.start with port := .setup, bus := .setupTransfer [5] } }, 5, .check 1 2 3, .wait 7, 0, 7, [5], [], by decide, by decide, by decide, by decide, by decide, by decide, by decide⟩

theorem test_meets_SetupRun_wait : ∃ (s : State) (_ : Byte) (_ : SetupEntry) (next : SetupEntry) (since : Moment) (ms : Nat) (_ : List Byte) (_ : List ListWrite),
    (s.supply = .run) ∧
    (MotionWf s) ∧
    (DropWf s) ∧
    (s.motion.port = .setup) ∧
    (s.motion.bus = .idle) ∧
    (s.store.settings.motion.setupList[s.motion.setup.entry]? = some (.wait ms)) ∧
    (s.motion.setup.waitSince = some since) ∧
    (ms ≤ (s.timeBase - since).toNat) ∧
    (s.store.settings.motion.setupList[s.motion.setup.entry + 1]? = some next) :=
  ⟨{ State.reset with timeBase := 28, store := { Store.cold with settings := { Settings.cold with motion := { MotionSettings.cold with setupList := [.wait 7, .write 1 2] } } }, motion := { Motion.start with port := .setup, setup := ⟨0, false, some 21⟩ } }, 5, .wait 7, .write 1 2, 21, 7, [5], [], by decide, by decide, by decide, by decide, by decide, by decide, by decide, by decide, by decide⟩

theorem test_meets_SetupRun_waitEarly : ∃ (s : State) (_ : Byte) (_ : SetupEntry) (_ : SetupEntry) (since : Moment) (ms : Nat) (_ : List Byte) (_ : List ListWrite),
    (s.supply = .run) ∧
    (MotionWf s) ∧
    (DropWf s) ∧
    (s.motion.port = .setup) ∧
    (s.store.settings.motion.setupList[s.motion.setup.entry]? = some (.wait ms)) ∧
    (s.motion.setup.waitSince = some since) ∧
    ((s.timeBase - since).toNat < ms) :=
  ⟨{ State.reset with timeBase := 28, store := { Store.cold with settings := { Settings.cold with motion := { MotionSettings.cold with setupList := [.wait 7, .write 1 2] } } }, motion := { Motion.start with port := .setup, setup := ⟨0, false, some 22⟩ } }, 5, .wait 7, .write 1 2, 22, 7, [5], [], by decide, by decide, by decide, by decide, by decide, by decide, by decide⟩

theorem test_meets_SetupRun_retry : ∃ (s : State) (_ : Byte) (_ : SetupEntry) (next : SetupEntry) (since : Moment) (_ : Nat) (_ : List Byte) (_ : List ListWrite),
    (s.supply = .run) ∧
    (MotionWf s) ∧
    (DropWf s) ∧
    (s.motion.port = .lost) ∧
    (s.motion.retry = some since) ∧
    (s.motion.bus = .idle) ∧
    (500 ≤ (s.timeBase - since).toNat) ∧
    (s.store.settings.motion.setupList[0]? = some next) :=
  ⟨{ State.reset with timeBase := 528, store := { Store.cold with settings := { Settings.cold with motion := { MotionSettings.cold with setupList := [.wait 7] } } }, motion := { Motion.start with port := .lost, retry := some 28 } }, 5, .wait 7, .wait 7, 28, 7, [5], [], by decide, by decide, by decide, by decide, by decide, by decide, by decide, by decide⟩

theorem test_meets_SetupRun_retryEarly : ∃ (s : State) (_ : Byte) (_ : SetupEntry) (_ : SetupEntry) (since : Moment) (_ : Nat) (_ : List Byte) (_ : List ListWrite),
    (s.supply = .run) ∧
    (MotionWf s) ∧
    (DropWf s) ∧
    (s.motion.port = .lost) ∧
    (s.motion.retry = some since) ∧
    ((s.timeBase - since).toNat < 500) :=
  ⟨{ State.reset with timeBase := 527, store := { Store.cold with settings := { Settings.cold with motion := { MotionSettings.cold with setupList := [.wait 7] } } }, motion := { Motion.start with port := .lost, retry := some 28 } }, 5, .wait 7, .wait 7, 28, 7, [5], [], by decide, by decide, by decide, by decide, by decide, by decide⟩

theorem test_meets_SetupRun_waitLast : ∃ (s : State) (_ : Byte) (_ : SetupEntry) (_ : SetupEntry) (since : Moment) (ms : Nat) (_ : List Byte) (_ : List ListWrite),
    (s.supply = .run) ∧
    (MotionWf s) ∧
    (DropWf s) ∧
    (s.motion.port = .setup) ∧
    (s.motion.bus = .idle) ∧
    (s.store.settings.motion.setupList[s.motion.setup.entry]? = some (.wait ms)) ∧
    (s.motion.setup.waitSince = some since) ∧
    (ms ≤ (s.timeBase - since).toNat) ∧
    (s.store.settings.motion.setupList[s.motion.setup.entry + 1]? = none) :=
  ⟨{ State.reset with timeBase := 28, store := { Store.cold with settings := { Settings.cold with motion := { MotionSettings.cold with setupList := [.wait 7] } } }, motion := { Motion.start with port := .setup, setup := ⟨0, false, some 21⟩ } }, 5, .wait 7, .write 1 2, 21, 7, [5], [], by decide, by decide, by decide, by decide, by decide, by decide, by decide, by decide, by decide⟩

theorem test_meets_SetupRun_retryBusy : ∃ (s : State) (_ : Byte) (_ : SetupEntry) (next : SetupEntry) (since : Moment) (_ : Nat) (_ : List Byte) (left : List ListWrite),
    (s.supply = .run) ∧
    (MotionWf s) ∧
    (DropWf s) ∧
    (s.motion.port = .lost) ∧
    (s.motion.retry = some since) ∧
    (s.motion.bus = .listWrite .abortOff left) ∧
    (500 ≤ (s.timeBase - since).toNat) ∧
    (s.store.settings.motion.setupList[0]? = some next) :=
  ⟨{ State.reset with timeBase := 528, store := { Store.cold with settings := { Settings.cold with motion := { MotionSettings.cold with setupList := [.write 1 2] } } }, motion := { Motion.start with port := .lost, retry := some 28, bus := .listWrite .abortOff [⟨3, 4⟩] } }, 5, .wait 7, .write 1 2, 28, 7, [5], [⟨3, 4⟩], by decide, by decide, by decide, by decide, by decide, by decide, by decide, by decide⟩

theorem test_meets_SetupRun_retryEmpty : ∃ (s : State) (_ : Byte) (_ : SetupEntry) (_ : SetupEntry) (since : Moment) (_ : Nat) (_ : List Byte) (left : List ListWrite),
    (s.supply = .run) ∧
    (MotionWf s) ∧
    (DropWf s) ∧
    (s.motion.port = .lost) ∧
    (s.motion.retry = some since) ∧
    (s.motion.bus = .idle ∨ s.motion.bus = .listWrite .abortOff left) ∧
    (500 ≤ (s.timeBase - since).toNat) ∧
    (s.store.settings.motion.setupList = []) :=
  ⟨{ State.reset with timeBase := 528, store := { Store.cold with settings := { Settings.cold with motion := { MotionSettings.cold with setupList := [] } } }, motion := { Motion.start with port := .lost, retry := some 28 } }, 5, .wait 7, .wait 7, 28, 7, [5], [], by decide, by decide, by decide, by decide, by decide, by decide, by decide, by decide⟩

theorem test_meets_MintAndStall_starts : ∃ (s : State) (_ : Nat) (_ : Byte) (_ : Moment) (_ : WriteList) (_ : List ListWrite) (_ : Timer),
    (s.supply = .run) ∧
    (s.pins.mint = false) ∧
    (s.motion.port.watchesMint = true) ∧
    (s.motion.bus = .idle) ∧
    (s.motion.burstWaiting = none) :=
  ⟨State.reset, 1, 0x82, 3, .abortOff, [⟨1, 2⟩], ⟨28, 60⟩, by decide, by decide, by decide, by decide, by decide⟩

theorem test_meets_MintAndStall_pending : ∃ (s : State) (w : Nat) (address : Byte) (time : Moment) (_ : WriteList) (_ : List ListWrite) (_ : Timer),
    (s.supply = .run) ∧
    (s.pins.mint = false) ∧
    (s.motion.port.watchesMint = true) ∧
    (s.motion.bus = .burst w address time) :=
  ⟨{ State.reset with motion := { State.reset.motion with bus := .burst 1 0x82 3 } }, 1, 0x82, 3, .abortOff, [⟨1, 2⟩], ⟨28, 60⟩, by decide, by decide, by decide, by decide⟩

theorem test_meets_MintAndStall_waits : ∃ (s : State) (_ : Nat) (_ : Byte) (_ : Moment) (list : WriteList) (left : List ListWrite) (_ : Timer),
    (s.supply = .run) ∧
    (s.pins.mint = false) ∧
    (s.motion.port.watchesMint = true) ∧
    (s.motion.bus = .listWrite list left) ∧
    (s.motion.burstWaiting = none) :=
  ⟨{ State.reset with motion := { State.reset.motion with bus := .listWrite .abortOff [⟨1, 2⟩] } }, 1, 0x82, 3, .abortOff, [⟨1, 2⟩], ⟨28, 60⟩, by decide, by decide, by decide, by decide, by decide⟩

theorem test_meets_MintAndStall_waiting : ∃ (s : State) (_ : Nat) (_ : Byte) (_ : Moment) (list : WriteList) (left : List ListWrite) (_ : Timer),
    (s.supply = .run) ∧
    (s.pins.mint = false) ∧
    (s.motion.port.watchesMint = true) ∧
    ((s.motion.bus = .idle ∨ s.motion.bus = .listWrite list left)) ∧
    (s.motion.burstWaiting.isSome = true) :=
  ⟨{ State.reset with motion := { State.reset.motion with burstWaiting := some .level, bus := .listWrite .abortOff [⟨1, 2⟩] } }, 1, 0x82, 3, .abortOff, [⟨1, 2⟩], ⟨28, 60⟩, by decide, by decide, by decide, by decide, by decide⟩

theorem test_meets_MintAndStall_held : ∃ (s : State) (_ : Nat) (_ : Byte) (_ : Moment) (_ : WriteList) (_ : List ListWrite) (_ : Timer),
    (s.supply = .run) ∧
    ((s.pins.mint = true ∨ s.motion.port.watchesMint = false)) :=
  ⟨{ State.reset with pins := { Pins.released with mint := true } }, 1, 0x82, 3, .abortOff, [⟨1, 2⟩], ⟨28, 60⟩, by decide, by decide⟩

theorem test_meets_MintAndStall_stopped : ∃ (s : State) (_ : Nat) (_ : Byte) (_ : Moment) (_ : WriteList) (_ : List ListWrite) (_ : Timer),
    (s.supply ≠ .run) :=
  ⟨{ State.reset with supply := .unpowered }, 1, 0x82, 3, .abortOff, [⟨1, 2⟩], ⟨28, 60⟩, by decide⟩

theorem test_meets_MintAndStall_stall : ∃ (s : State) (_ : Nat) (_ : Byte) (_ : Moment) (_ : WriteList) (_ : List ListWrite) (timer : Timer),
    (s.supply = .run) ∧
    (MotionWf s) ∧
    (DropWf s) ∧
    (s.motion.stall = some timer) ∧
    (timer.length ≤ (s.timeBase - timer.since).toNat) :=
  ⟨{ State.reset with timeBase := 88 }, 1, 0x82, 3, .abortOff, [⟨1, 2⟩], ⟨28, 60⟩, by decide, by decide, by decide, by decide, by decide⟩

theorem test_meets_MintAndStall_stallChecking : ∃ (s : State) (_ : Nat) (_ : Byte) (_ : Moment) (_ : WriteList) (_ : List ListWrite) (timer : Timer),
    (s.supply = .run) ∧
    (MotionWf s) ∧
    (DropWf s) ∧
    (s.motion.stall = some timer) ∧
    (timer.length ≤ (s.timeBase - timer.since).toNat) ∧
    (s.motion.port = .checking) :=
  ⟨{ State.reset with timeBase := 88, motion := { State.reset.motion with port := .checking } }, 1, 0x82, 3, .abortOff, [⟨1, 2⟩], ⟨28, 60⟩, by decide, by decide, by decide, by decide, by decide, by decide⟩

theorem test_meets_MintAndStall_stallEarly : ∃ (s : State) (_ : Nat) (_ : Byte) (_ : Moment) (_ : WriteList) (_ : List ListWrite) (timer : Timer),
    (s.supply = .run) ∧
    (s.motion.stall = some timer) ∧
    ((s.timeBase - timer.since).toNat < timer.length) :=
  ⟨State.reset, 1, 0x82, 3, .abortOff, [⟨1, 2⟩], ⟨28, 60⟩, by decide, by decide, by decide⟩

theorem test_meets_BurstsEnd_bad : ∃ (s : State) (w : Nat) (address : Byte) (bytes : List Byte) (time : Moment) (_ : WriteList) (_ : ListWrite) (_ : List ListWrite),
    (s.supply = .run) ∧
    (s.motion.bus = .burst w address time) ∧
    (bytes.length = 6 * w) ∧
    (s.motion.port = .streaming) ∧
    ((bytes.all (· == 0) || bytes.all (· == 255)) = true) ∧
    (s.motion.badCount ≤ 1) ∧
    (s.motion.burstWaiting = none) :=
  ⟨{ State.reset with motion := { State.reset.motion with bus := .burst 1 0x82 3 } }, 1, 0x82, [0, 0, 0, 0, 0, 0], 3, .checkOff, ⟨1, 2⟩, [⟨3, 4⟩], by decide, by decide, by decide, by decide, by decide, by decide, by decide⟩

theorem test_meets_BurstsEnd_badThird : ∃ (s : State) (w : Nat) (address : Byte) (bytes : List Byte) (time : Moment) (_ : WriteList) (_ : ListWrite) (_ : List ListWrite),
    (s.supply = .run) ∧
    (s.motion.bus = .burst w address time) ∧
    (bytes.length = 6 * w) ∧
    (s.motion.port = .streaming) ∧
    ((bytes.all (· == 0) || bytes.all (· == 255)) = true) ∧
    (s.motion.badCount = 2) ∧
    (MotionWf s) ∧
    (DropWf s) :=
  ⟨{ State.reset with motion := { State.reset.motion with bus := .burst 1 0x82 3, badCount := 2 } }, 1, 0x82, [0, 0, 0, 0, 0, 0], 3, .checkOff, ⟨1, 2⟩, [⟨3, 4⟩], by decide, by decide, by decide, by decide, by decide, by decide, by decide, by decide⟩

theorem test_meets_BurstsEnd_badChecking : ∃ (s : State) (w : Nat) (address : Byte) (bytes : List Byte) (time : Moment) (_ : WriteList) (_ : ListWrite) (_ : List ListWrite),
    (s.supply = .run) ∧
    (s.motion.bus = .burst w address time) ∧
    (bytes.length = 6 * w) ∧
    (s.motion.port = .checking) ∧
    ((bytes.all (· == 0) || bytes.all (· == 255)) = true) ∧
    (MotionWf s) ∧
    (DropWf s) ∧
    (s.motion.burstWaiting = none) :=
  ⟨{ State.reset with motion := { State.reset.motion with bus := .burst 1 0x82 3, port := .checking } }, 1, 0x82, [0, 0, 0, 0, 0, 0], 3, .checkOff, ⟨1, 2⟩, [⟨3, 4⟩], by decide, by decide, by decide, by decide, by decide, by decide, by decide, by decide⟩

theorem test_meets_BurstsEnd_complete : ∃ (s : State) (w : Nat) (address : Byte) (bytes : List Byte) (time : Moment) (_ : WriteList) (_ : ListWrite) (_ : List ListWrite),
    (s.supply = .run) ∧
    (s.motion.bus = .burst w address time) ∧
    (bytes.length = 6 * w) ∧
    (s.motion.port = .streaming) ∧
    ((bytes.all (· == 0) || bytes.all (· == 255)) = false) ∧
    (s.motion.burstWaiting = none) :=
  ⟨{ State.reset with motion := { State.reset.motion with bus := .burst 1 0x82 3 } }, 1, 0x82, [1, 0, 0, 1, 255, 255], 3, .checkOff, ⟨1, 2⟩, [⟨3, 4⟩], by decide, by decide, by decide, by decide, by decide, by decide⟩

theorem test_meets_BurstsEnd_baseline : ∃ (s : State) (w : Nat) (address : Byte) (bytes : List Byte) (time : Moment) (_ : WriteList) (_ : ListWrite) (_ : List ListWrite),
    (s.supply = .run) ∧
    (s.motion.bus = .burst w address time) ∧
    (bytes.length = 6 * w) ∧
    (s.motion.port = .checking) ∧
    ((bytes.all (· == 0) || bytes.all (· == 255)) = false) ∧
    (s.motion.burstWaiting = none) ∧
    (s.motion.check.phase = .baseline ∨ s.motion.check.phase = .on ∨ s.motion.check.phase = .ret) ∧
    (s.motion.check.count + w < 16) :=
  ⟨{ State.reset with motion := { State.reset.motion with bus := .burst 1 0x82 3, port := .checking } }, 1, 0x82, [1, 0, 0, 1, 255, 255], 3, .checkOff, ⟨1, 2⟩, [⟨3, 4⟩], by decide, by decide, by decide, by decide, by decide, by decide, by decide, by decide⟩

theorem test_meets_BurstsEnd_phaseEnds : ∃ (s : State) (w : Nat) (address : Byte) (bytes : List Byte) (time : Moment) (_ : WriteList) (_ : ListWrite) (_ : List ListWrite),
    (s.supply = .run) ∧
    (s.motion.bus = .burst w address time) ∧
    (bytes.length = 6 * w) ∧
    (s.motion.port = .checking) ∧
    ((bytes.all (· == 0) || bytes.all (· == 255)) = false) ∧
    (s.motion.burstWaiting = none) ∧
    (s.motion.check.phase = .baseline ∨ s.motion.check.phase = .on) ∧
    (s.motion.check.count < 16) ∧
    (16 ≤ s.motion.check.count + w) :=
  ⟨{ State.reset with motion := { State.reset.motion with bus := .burst 1 0x82 3, port := .checking, check := { CheckRun.start with count := 15 } } }, 1, 0x82, [1, 0, 0, 1, 255, 255], 3, .checkOff, ⟨1, 2⟩, [⟨3, 4⟩], by decide, by decide, by decide, by decide, by decide, by decide, by decide, by decide, by decide⟩

theorem test_meets_BurstsEnd_settleEnds : ∃ (s : State) (w : Nat) (address : Byte) (bytes : List Byte) (time : Moment) (_ : WriteList) (_ : ListWrite) (_ : List ListWrite),
    (s.supply = .run) ∧
    (s.motion.bus = .burst w address time) ∧
    (bytes.length = 6 * w) ∧
    (s.motion.port = .checking) ∧
    ((bytes.all (· == 0) || bytes.all (· == 255)) = false) ∧
    (s.motion.burstWaiting = none) ∧
    (s.motion.check.phase = .onSettle ∨ s.motion.check.phase = .offSettle) ∧
    (s.motion.check.count < 8) ∧
    (w ≤ 16) ∧
    (8 ≤ s.motion.check.count + w) :=
  ⟨{ State.reset with motion := { State.reset.motion with bus := .burst 1 0x82 3, port := .checking, check := { CheckRun.start with phase := .offSettle, count := 7 } } }, 1, 0x82, [1, 0, 0, 1, 255, 255], 3, .checkOff, ⟨1, 2⟩, [⟨3, 4⟩], by decide, by decide, by decide, by decide, by decide, by decide, by decide, by decide, by decide⟩

theorem test_meets_BurstsEnd_return : ∃ (s : State) (w : Nat) (address : Byte) (bytes : List Byte) (time : Moment) (_ : WriteList) (_ : ListWrite) (_ : List ListWrite),
    (s.supply = .run) ∧
    (s.motion.bus = .burst w address time) ∧
    (bytes.length = 6 * w) ∧
    (s.motion.port = .checking) ∧
    ((bytes.all (· == 0) || bytes.all (· == 255)) = false) ∧
    (s.motion.check.phase = .ret) ∧
    (s.motion.check.count < 16) ∧
    (16 ≤ s.motion.check.count + w) ∧
    (s.drop.state = .suspended) :=
  ⟨{ State.reset with motion := { State.reset.motion with bus := .burst 1 0x82 3, port := .checking, check := { CheckRun.start with phase := .ret, count := 15 } } }, 1, 0x82, [1, 0, 0, 1, 255, 255], 3, .checkOff, ⟨1, 2⟩, [⟨3, 4⟩], by decide, by decide, by decide, by decide, by decide, by decide, by decide, by decide, by decide⟩

theorem test_meets_BurstsEnd_noBurst : ∃ (s : State) (w : Nat) (address : Byte) (bytes : List Byte) (time : Moment) (_ : WriteList) (_ : ListWrite) (_ : List ListWrite),
    (s.supply = .run) ∧
    ((s.motion.port.watchesMint = false ∨ bytes.length ≠ 6 * w)) ∧
    (s.motion.bus = .burst w address time) :=
  ⟨{ State.reset with motion := { State.reset.motion with bus := .burst 1 0x82 3 } }, 1, 0x82, [], 3, .checkOff, ⟨1, 2⟩, [⟨3, 4⟩], by decide, by decide, by decide⟩

theorem test_meets_BurstsEnd_nextWrite : ∃ (s : State) (_ : Nat) (_ : Byte) (_ : List Byte) (_ : Moment) (list : WriteList) (x : ListWrite) (left : List ListWrite),
    (s.supply = .run) ∧
    (s.motion.bus = .listWrite list (x :: left)) ∧
    (left ≠ []) :=
  ⟨{ State.reset with motion := { State.reset.motion with bus := .listWrite .abortOff [⟨1, 2⟩, ⟨3, 4⟩] } }, 1, 0x82, [], 3, .abortOff, ⟨1, 2⟩, [⟨3, 4⟩], by decide, by decide, by decide⟩

theorem test_meets_BurstsEnd_lastWrite : ∃ (s : State) (_ : Nat) (_ : Byte) (_ : List Byte) (_ : Moment) (list : WriteList) (x : ListWrite) (_ : List ListWrite),
    (s.supply = .run) ∧
    (s.motion.bus = .listWrite list [x]) ∧
    (s.motion.port.watchesMint = true) :=
  ⟨{ State.reset with motion := { State.reset.motion with bus := .listWrite .abortOff [⟨1, 2⟩], burstWaiting := some .level } }, 1, 0x82, [], 3, .abortOff, ⟨1, 2⟩, [⟨3, 4⟩], by decide, by decide, by decide⟩

theorem test_meets_BurstsEnd_lastWriteLost : ∃ (s : State) (_ : Nat) (_ : Byte) (_ : List Byte) (_ : Moment) (list : WriteList) (x : ListWrite) (_ : List ListWrite),
    (s.supply = .run) ∧
    (s.motion.bus = .listWrite list [x]) ∧
    ((s.motion.port = .lost ∨ s.motion.port = .off)) :=
  ⟨{ State.reset with motion := { State.reset.motion with bus := .listWrite .abortOff [⟨1, 2⟩], port := .lost } }, 1, 0x82, [], 3, .abortOff, ⟨1, 2⟩, [⟨3, 4⟩], by decide, by decide, by decide⟩

theorem test_meets_BurstsEnd_lastWriteSetup : ∃ (s : State) (_ : Nat) (_ : Byte) (_ : List Byte) (_ : Moment) (list : WriteList) (x : ListWrite) (_ : List ListWrite),
    (s.supply = .run) ∧
    (s.motion.bus = .listWrite list [x]) ∧
    (s.motion.port = .setup) :=
  ⟨{ State.reset with motion := { State.reset.motion with bus := .listWrite .abortOff [⟨1, 2⟩], port := .setup } }, 1, 0x82, [], 3, .abortOff, ⟨1, 2⟩, [⟨3, 4⟩], by decide, by decide, by decide⟩

theorem test_meets_BurstsEnd_badOwed : ∃ (s : State) (w : Nat) (address : Byte) (bytes : List Byte) (time : Moment) (_ : WriteList) (_ : ListWrite) (_ : List ListWrite),
    (s.supply = .run) ∧
    (s.motion.bus = .burst w address time) ∧
    (bytes.length = 6 * w) ∧
    (s.motion.port = .checking) ∧
    ((bytes.all (· == 0) || bytes.all (· == 255)) = true) ∧
    (MotionWf s) ∧
    (DropWf s) ∧
    (s.motion.burstWaiting = none) ∧
    (s.owedOffList ≠ []) :=
  ⟨{ State.reset with store := Store.withWord { Store.cold with settings := { Settings.cold with motion := { MotionSettings.cold with check := { MotionSettings.cold.check with offList := [⟨1, 2⟩] } } } }, motion := { State.reset.motion with bus := .burst 1 0x82 3, port := .checking, check := { CheckRun.start with phase := .on } } }, 1, 0x82, [0, 0, 0, 0, 0, 0], 3, .checkOff, ⟨1, 2⟩, [⟨3, 4⟩], by decide, by decide, by decide, by decide, by decide, by decide, by decide, by decide, by decide⟩

theorem test_meets_CalmSamples_high : ∃ (s : State) (x : Sample),
    (MotionFits s.store.settings.motion) ∧
    (DropWf s) ∧
    (s.drop.state = .calm) ∧
    (s.store.settings.motion.scalars.timp ^ 2 < (x.v.x.natAbs ^ 2 + x.v.y.natAbs ^ 2 + x.v.z.natAbs ^ 2)) :=
  ⟨{ State.reset with drop := { Drop.start with state := .calm } }, ⟨⟨0, 0, 4000⟩, 5⟩, by decide, by decide, by decide, by decide⟩

theorem test_meets_CalmSamples_confirmed : ∃ (s : State) (x : Sample),
    (MotionFits s.store.settings.motion) ∧
    (DropWf s) ∧
    (s.drop.state = .calm) ∧
    ((x.v.x.natAbs ^ 2 + x.v.y.natAbs ^ 2 + x.v.z.natAbs ^ 2) < s.store.settings.motion.scalars.tff ^ 2) ∧
    ((fun ms => (ms * s.store.settings.motion.scalars.rate.hz + 999) / 1000) s.store.settings.motion.scalars.fallConfirm ≤ s.drop.lowRun + 1) :=
  ⟨{ State.reset with drop := { Drop.start with state := .calm, lowRun := 47 } }, ⟨⟨0, 0, 349⟩, 5⟩, by decide, by decide, by decide, by decide, by decide⟩

theorem test_meets_CalmSamples_low : ∃ (s : State) (x : Sample),
    (MotionFits s.store.settings.motion) ∧
    (DropWf s) ∧
    (s.drop.state = .calm) ∧
    ((x.v.x.natAbs ^ 2 + x.v.y.natAbs ^ 2 + x.v.z.natAbs ^ 2) < s.store.settings.motion.scalars.tff ^ 2) ∧
    (s.drop.lowRun + 1 < (fun ms => (ms * s.store.settings.motion.scalars.rate.hz + 999) / 1000) s.store.settings.motion.scalars.fallConfirm) :=
  ⟨{ State.reset with drop := { Drop.start with state := .calm } }, ⟨⟨0, 0, 349⟩, 5⟩, by decide, by decide, by decide, by decide, by decide⟩

theorem test_meets_CalmSamples_ordinary : ∃ (s : State) (x : Sample),
    (MotionFits s.store.settings.motion) ∧
    (DropWf s) ∧
    (s.drop.state = .calm) ∧
    (s.store.settings.motion.scalars.tff ^ 2 ≤ (x.v.x.natAbs ^ 2 + x.v.y.natAbs ^ 2 + x.v.z.natAbs ^ 2)) ∧
    ((x.v.x.natAbs ^ 2 + x.v.y.natAbs ^ 2 + x.v.z.natAbs ^ 2) ≤ s.store.settings.motion.scalars.timp ^ 2) :=
  ⟨{ State.reset with drop := { Drop.start with state := .calm } }, ⟨⟨0, 0, 350⟩, 5⟩, by decide, by decide, by decide, by decide, by decide⟩

theorem test_meets_DropSamples_fallHigh : ∃ (s : State) (x : Sample) (r : OpenRecord),
    (MotionFits s.store.settings.motion) ∧
    (s.drop.record = some r) ∧
    (s.drop.state = .falling) ∧
    (s.store.settings.motion.scalars.timp ^ 2 < (x.v.x.natAbs ^ 2 + x.v.y.natAbs ^ 2 + x.v.z.natAbs ^ 2)) :=
  ⟨{ State.reset with drop := { Drop.start with state := .falling, park := true, contactGuard := true, record := some ⟨none, 5, false, false, false, false, .full, noSources, 0, none, none⟩ } }, ⟨⟨0, 0, 4000⟩, 5⟩, ⟨none, 5, false, false, false, false, .full, noSources, 0, none, none⟩, by decide, by decide, by decide, by decide⟩

theorem test_meets_DropSamples_fall : ∃ (s : State) (x : Sample) (r : OpenRecord),
    (MotionFits s.store.settings.motion) ∧
    (s.drop.record = some r) ∧
    (s.drop.state = .falling) ∧
    ((x.v.x.natAbs ^ 2 + x.v.y.natAbs ^ 2 + x.v.z.natAbs ^ 2) ≤ s.store.settings.motion.scalars.timp ^ 2) :=
  ⟨{ State.reset with drop := { Drop.start with state := .falling, park := true, contactGuard := true, record := some ⟨none, 5, false, false, false, false, .full, noSources, 0, none, none⟩ } }, ⟨⟨0, 0, 349⟩, 5⟩, ⟨none, 5, false, false, false, false, .full, noSources, 0, none, none⟩, by decide, by decide, by decide, by decide⟩

theorem test_meets_DropSamples_impactHigh : ∃ (s : State) (x : Sample) (r : OpenRecord),
    (MotionFits s.store.settings.motion) ∧
    (s.drop.record = some r) ∧
    (s.drop.state = .impact) ∧
    (s.store.settings.motion.scalars.timp ^ 2 < (x.v.x.natAbs ^ 2 + x.v.y.natAbs ^ 2 + x.v.z.natAbs ^ 2)) :=
  ⟨{ State.reset with drop := { Drop.start with state := .impact, park := true, contactGuard := true, record := some ⟨none, 5, false, false, false, false, .full, noSources, 0, none, none⟩ } }, ⟨⟨0, 0, 4000⟩, 5⟩, ⟨none, 5, false, false, false, false, .full, noSources, 0, none, none⟩, by decide, by decide, by decide, by decide⟩

theorem test_meets_DropSamples_impact : ∃ (s : State) (x : Sample) (r : OpenRecord),
    (MotionFits s.store.settings.motion) ∧
    (s.drop.record = some r) ∧
    (s.drop.state = .impact) ∧
    ((x.v.x.natAbs ^ 2 + x.v.y.natAbs ^ 2 + x.v.z.natAbs ^ 2) ≤ s.store.settings.motion.scalars.timp ^ 2) :=
  ⟨{ State.reset with drop := { Drop.start with state := .impact, park := true, contactGuard := true, record := some ⟨none, 5, false, false, false, false, .full, noSources, 0, none, none⟩ } }, ⟨⟨0, 0, 1000⟩, 5⟩, ⟨none, 5, false, false, false, false, .full, noSources, 0, none, none⟩, by decide, by decide, by decide, by decide⟩

theorem test_meets_DropSamples_legHigh : ∃ (s : State) (x : Sample) (r : OpenRecord),
    (MotionFits s.store.settings.motion) ∧
    (s.drop.record = some r) ∧
    (s.drop.state = .recover) ∧
    (s.store.settings.motion.scalars.timp ^ 2 < (x.v.x.natAbs ^ 2 + x.v.y.natAbs ^ 2 + x.v.z.natAbs ^ 2)) :=
  ⟨{ State.reset with drop := { Drop.start with state := .recover, park := true, contactGuard := true, record := some ⟨none, 5, false, false, false, false, .full, noSources, 0, none, none⟩ } }, ⟨⟨0, 0, 4000⟩, 5⟩, ⟨none, 5, false, false, false, false, .full, noSources, 0, none, none⟩, by decide, by decide, by decide, by decide⟩

theorem test_meets_DropSamples_legLow : ∃ (s : State) (x : Sample) (r : OpenRecord),
    (MotionFits s.store.settings.motion) ∧
    (s.drop.record = some r) ∧
    (s.drop.state = .recover) ∧
    ((x.v.x.natAbs ^ 2 + x.v.y.natAbs ^ 2 + x.v.z.natAbs ^ 2) < s.store.settings.motion.scalars.tff ^ 2) ∧
    ((fun ms => (ms * s.store.settings.motion.scalars.rate.hz + 999) / 1000) s.store.settings.motion.scalars.fallConfirm ≤ s.drop.lowRun + 1) :=
  ⟨{ State.reset with drop := { Drop.start with state := .recover, park := true, contactGuard := true, record := some ⟨none, 5, false, false, false, false, .full, noSources, 0, none, none⟩, lowRun := 47 } }, ⟨⟨0, 0, 349⟩, 5⟩, ⟨none, 5, false, false, false, false, .full, noSources, 0, none, none⟩, by decide, by decide, by decide, by decide, by decide⟩

theorem test_meets_DropSamples_guard : ∃ (s : State) (x : Sample) (r : OpenRecord),
    (MotionFits s.store.settings.motion) ∧
    (s.drop.record = some r) ∧
    (s.drop.state = .recover) ∧
    ((x.v.x.natAbs ^ 2 + x.v.y.natAbs ^ 2 + x.v.z.natAbs ^ 2) ≤ s.store.settings.motion.scalars.timp ^ 2) ∧
    (((x.v.x.natAbs ^ 2 + x.v.y.natAbs ^ 2 + x.v.z.natAbs ^ 2) < s.store.settings.motion.scalars.tff ^ 2 → s.drop.lowRun + 1 < (fun ms => (ms * s.store.settings.motion.scalars.rate.hz + 999) / 1000) s.store.settings.motion.scalars.fallConfirm)) ∧
    (s.drop.guardCount + 1 < (fun ms => (ms * s.store.settings.motion.scalars.rate.hz + 999) / 1000) s.store.settings.motion.scalars.guardTime) :=
  ⟨{ State.reset with drop := { Drop.start with state := .recover, park := true, contactGuard := true, record := some ⟨none, 5, false, false, false, false, .full, noSources, 0, none, none⟩ } }, ⟨⟨0, 0, 349⟩, 5⟩, ⟨none, 5, false, false, false, false, .full, noSources, 0, none, none⟩, by decide, by decide, by decide, by decide, by decide, by decide⟩

theorem test_meets_DropSamples_calm : ∃ (s : State) (x : Sample) (r : OpenRecord),
    (MotionFits s.store.settings.motion) ∧
    (s.drop.record = some r) ∧
    (s.drop.state = .recover) ∧
    ((x.v.x.natAbs ^ 2 + x.v.y.natAbs ^ 2 + x.v.z.natAbs ^ 2) ≤ s.store.settings.motion.scalars.timp ^ 2) ∧
    (((x.v.x.natAbs ^ 2 + x.v.y.natAbs ^ 2 + x.v.z.natAbs ^ 2) < s.store.settings.motion.scalars.tff ^ 2 → s.drop.lowRun + 1 < (fun ms => (ms * s.store.settings.motion.scalars.rate.hz + 999) / 1000) s.store.settings.motion.scalars.fallConfirm)) ∧
    ((fun ms => (ms * s.store.settings.motion.scalars.rate.hz + 999) / 1000) s.store.settings.motion.scalars.guardTime ≤ s.drop.guardCount + 1) :=
  ⟨{ State.reset with drop := { Drop.start with state := .recover, park := true, contactGuard := true, record := some ⟨none, 5, false, false, false, false, .full, noSources, 0, none, none⟩, guardCount := 399 } }, ⟨⟨0, 0, 1000⟩, 5⟩, ⟨none, 5, false, false, false, false, .full, noSources, 0, none, none⟩, by decide, by decide, by decide, by decide, by decide, by decide⟩

theorem test_meets_DropSamples_taken : ∃ (s : State) (x : Sample) (r : OpenRecord),
    (MotionFits s.store.settings.motion) ∧
    (s.drop.record = some r) ∧
    (s.drop.state = .recover) ∧
    ((x.v.x.natAbs ^ 2 + x.v.y.natAbs ^ 2 + x.v.z.natAbs ^ 2) ≤ s.store.settings.motion.scalars.timp ^ 2) ∧
    (((x.v.x.natAbs ^ 2 + x.v.y.natAbs ^ 2 + x.v.z.natAbs ^ 2) < s.store.settings.motion.scalars.tff ^ 2 → s.drop.lowRun + 1 < (fun ms => (ms * s.store.settings.motion.scalars.rate.hz + 999) / 1000) s.store.settings.motion.scalars.fallConfirm)) ∧
    ((fun ms => (ms * s.store.settings.motion.scalars.rate.hz + 999) / 1000) s.store.settings.motion.scalars.guardTime ≤ s.drop.guardCount + 1) ∧
    (presenceOver .a s = true) ∧
    (windowOver .b s = true) :=
  ⟨{ State.reset with drop := { Drop.start with state := .recover, park := true, contactGuard := true, record := some ⟨none, 5, false, false, false, false, .full, noSources, 0, none, none⟩, guardCount := 399 } , timeBase := 300, power := { Power.start with deferred := true, src := ⟨.start, { SourceRun.start with presence := true, state := .activeOn, switch := true, pendingPresence := some 290 }, { SourceRun.start with presence := true, state := .activeOn, switch := true, violation := .running 250 .low }⟩ } }, ⟨⟨0, 0, 1000⟩, 5⟩, ⟨none, 5, false, false, false, false, .full, noSources, 0, none, none⟩, by decide, by decide, by decide, by decide, by decide, by decide, by decide, by decide⟩

theorem test_meets_DropSamples_stays : ∃ (s : State) (x : Sample) (r : OpenRecord),
    (MotionFits s.store.settings.motion) ∧
    (s.drop.record = some r) ∧
    (s.drop.state = .recover) ∧
    ((x.v.x.natAbs ^ 2 + x.v.y.natAbs ^ 2 + x.v.z.natAbs ^ 2) ≤ s.store.settings.motion.scalars.timp ^ 2) ∧
    (((x.v.x.natAbs ^ 2 + x.v.y.natAbs ^ 2 + x.v.z.natAbs ^ 2) < s.store.settings.motion.scalars.tff ^ 2 → s.drop.lowRun + 1 < (fun ms => (ms * s.store.settings.motion.scalars.rate.hz + 999) / 1000) s.store.settings.motion.scalars.fallConfirm)) ∧
    ((fun ms => (ms * s.store.settings.motion.scalars.rate.hz + 999) / 1000) s.store.settings.motion.scalars.guardTime ≤ s.drop.guardCount + 1) ∧
    (GuardFallsQuiet s) ∧
    ((s.power.preferred s.store.settings.power.policy).isEmpty = true ∨ (s.power.preferred s.store.settings.power.policy) = s.power.feeding) :=
  ⟨{ State.reset with drop := { Drop.start with state := .recover, park := true, contactGuard := true, record := some ⟨none, 5, false, false, false, false, .full, noSources, 0, none, none⟩, guardCount := 399 } , timeBase := 300, power := { Power.start with deferred := true, src := ⟨.start, { SourceRun.start with presence := true, state := .activeOn, switch := true, drained := false }, { SourceRun.start with presence := true, state := .standby }⟩ } }, ⟨⟨0, 0, 1000⟩, 5⟩, ⟨none, 5, false, false, false, false, .full, noSources, 0, none, none⟩, by decide, by decide, by decide, by decide, by decide, by decide, by decide, by decide⟩

theorem test_meets_DropSamples_join : ∃ (s : State) (x : Sample) (r : OpenRecord),
    (MotionFits s.store.settings.motion) ∧
    (s.drop.record = some r) ∧
    (s.drop.state = .recover) ∧
    ((x.v.x.natAbs ^ 2 + x.v.y.natAbs ^ 2 + x.v.z.natAbs ^ 2) ≤ s.store.settings.motion.scalars.timp ^ 2) ∧
    (((x.v.x.natAbs ^ 2 + x.v.y.natAbs ^ 2 + x.v.z.natAbs ^ 2) < s.store.settings.motion.scalars.tff ^ 2 → s.drop.lowRun + 1 < (fun ms => (ms * s.store.settings.motion.scalars.rate.hz + 999) / 1000) s.store.settings.motion.scalars.fallConfirm)) ∧
    ((fun ms => (ms * s.store.settings.motion.scalars.rate.hz + 999) / 1000) s.store.settings.motion.scalars.guardTime ≤ s.drop.guardCount + 1) ∧
    (GuardFallsQuiet s) ∧
    (isJoin s.power s.store.settings.power.policy (s.power.preferred s.store.settings.power.policy) s.power.feeding = true) :=
  ⟨{ State.reset with drop := { Drop.start with state := .recover, park := true, contactGuard := true, record := some ⟨none, 5, false, false, false, false, .full, noSources, 0, none, none⟩, guardCount := 399 } , timeBase := 300, store := { Store.cold with settings := { Settings.cold with power := { PowerSettings.cold with policy := .share } } }, power := { Power.start with deferred := true, src := ⟨.start, { SourceRun.start with presence := true, state := .activeOn, switch := true, drained := false }, { SourceRun.start with presence := true, state := .standby }⟩ } }, ⟨⟨0, 0, 1000⟩, 5⟩, ⟨none, 5, false, false, false, false, .full, noSources, 0, none, none⟩, by decide, by decide, by decide, by decide, by decide, by decide, by decide, by decide⟩

theorem test_meets_DropSamples_transfer : ∃ (s : State) (x : Sample) (r : OpenRecord),
    (MotionFits s.store.settings.motion) ∧
    (s.drop.record = some r) ∧
    (s.drop.state = .recover) ∧
    ((x.v.x.natAbs ^ 2 + x.v.y.natAbs ^ 2 + x.v.z.natAbs ^ 2) ≤ s.store.settings.motion.scalars.timp ^ 2) ∧
    (((x.v.x.natAbs ^ 2 + x.v.y.natAbs ^ 2 + x.v.z.natAbs ^ 2) < s.store.settings.motion.scalars.tff ^ 2 → s.drop.lowRun + 1 < (fun ms => (ms * s.store.settings.motion.scalars.rate.hz + 999) / 1000) s.store.settings.motion.scalars.fallConfirm)) ∧
    ((fun ms => (ms * s.store.settings.motion.scalars.rate.hz + 999) / 1000) s.store.settings.motion.scalars.guardTime ≤ s.drop.guardCount + 1) ∧
    (GuardFallsQuiet s) ∧
    ((s.power.preferred s.store.settings.power.policy).within s.power.feeding = false) ∧
    (isJoin s.power s.store.settings.power.policy (s.power.preferred s.store.settings.power.policy) s.power.feeding = false) :=
  ⟨{ State.reset with drop := { Drop.start with state := .recover, park := true, contactGuard := true, record := some ⟨none, 5, false, false, false, false, .full, noSources, 0, none, none⟩, guardCount := 399 } , timeBase := 300, power := { Power.start with deferred := true, src := ⟨{ SourceRun.start with presence := true, state := .standby }, { SourceRun.start with presence := true, state := .activeOn, switch := true, drained := false }, .start⟩ } }, ⟨⟨0, 0, 1000⟩, 5⟩, ⟨none, 5, false, false, false, false, .full, noSources, 0, none, none⟩, by decide, by decide, by decide, by decide, by decide, by decide, by decide, by decide, by decide⟩

theorem test_meets_RecordWritten : ∃ (_ : Store) (r : OpenRecord) (_ : Bool) (_ : Nat) (_ : Rate) (p : Peak) (root : Nat),
    ((r.peak = some p ∨ r.kind = none ∨ r.kind = some .fallNoImpact)) ∧
    (root * root ≤ p.m2) ∧
    (p.m2 < (root + 1) * (root + 1)) :=
  ⟨Store.cold, ⟨some .fallImpact, 5, false, false, true, false, .full, noSources, 288, some ⟨38860000, .z, 6⟩, none⟩, false, 0, .r800, ⟨38860000, .z, 6⟩, 6233, by decide, by decide, by decide⟩

theorem test_meets_ReadLogReturns : ∃ (s : State) (tag : Byte) (p : List Byte),
    (Ready 0x50 tag p s) ∧
    (p.length = 5) :=
  ⟨State.reset, 7, [1, 0, 0, 0, 9], by decide, by decide⟩

theorem test_meets_ClearLogRemoves : ∃ (s : State) (tag : Byte) (p : List Byte),
    (Ready 0x51 tag p s) ∧
    (p.length = 4) ∧
    (LogWf s.store) :=
  ⟨State.reset, 7, [1, 0, 0, 0], by decide, by decide, by decide⟩

theorem test_meets_LogInvariant : ∃ (s : State) (t : State),
    (LogWf s.store) ∧
    (step s = .next t) :=
  ⟨{ State.reset with pending := [.timeBaseTick] }, { State.reset with timeBase := 29 }, by decide, rfl⟩

theorem test_meets_RangesInvariant : ∃ (s : State) (t : State),
    (SettingsWf s.store.settings ∧ ScannerWf s.scanner) ∧
    (step s = .next t) :=
  ⟨{ State.reset with pending := [.timeBaseTick] }, { State.reset with timeBase := 29 }, ⟨⟨by decide, by decide, by decide, by decide, by decide⟩, by decide⟩, rfl⟩

theorem test_meets_LinkInvariant : ∃ (s : State) (t : State),
    (LinkWf s ∧ WakeWf s) ∧
    (step s = .next t) :=
  ⟨{ State.reset with pending := [.timeBaseTick] }, { State.reset with timeBase := 29 }, by decide, rfl⟩

theorem test_meets_PowerInvariant : ∃ (s : State) (t : State),
    (PowerWf s ∧ LockWf s.locks.a ∧ LockWf s.locks.b) ∧
    (step s = .next t) :=
  ⟨{ State.reset with pending := [.timeBaseTick] }, { State.reset with timeBase := 29 }, by decide, rfl⟩

theorem test_meets_BacklightInvariant : ∃ (s : State) (t : State),
    (BacklightWf s) ∧
    (step s = .next t) :=
  ⟨{ State.reset with pending := [.timeBaseTick] }, { State.reset with timeBase := 29 }, by decide, rfl⟩

theorem test_meets_MotionInvariant : ∃ (s : State) (t : State),
    (MotionWf s ∧ DropWf s) ∧
    (step s = .next t) :=
  ⟨{ State.reset with pending := [.timeBaseTick] }, { State.reset with timeBase := 29 }, by decide, rfl⟩

end Sys2Proof.Tests
end

section
/-! What GET_SLOT, GET_LOCKS and GET_CURVE report (R40, R106, R142). -/

namespace Sys2Proof.Machine

/-! ### Values that the reports send -/

/-- A byte of three flags, as the sum of its bits. -/
theorem flagByte_three (a b c : Bool) : flagByte [a, b, c] = BitVec.ofNat 8 (a.toNat + 2 * b.toNat + 4 * c.toNat) := by
  simp only [flagByte, List.foldr]; congr 1; omega

/-- A byte of four flags, as the sum of its bits. -/
theorem flagByte_four (a b c d : Bool) :
    flagByte [a, b, c, d] = BitVec.ofNat 8 (a.toNat + 2 * b.toNat + 4 * c.toNat + 8 * d.toNat) := by
  simp only [flagByte, List.foldr]; congr 1; omega

/-- A running sense window reports at least 1 ms (R106): its upper bound of 50 never acts. -/
theorem clampNat_windowLeft (gone : Nat) : clampNat (50 - gone) 1 50 = max 1 (50 - gone) := by
  unfold clampNat; split
  · omega
  · split <;> omega

@[simp] theorem windowRemaining_engaging (since now : Moment) :
    windowRemaining (.engaging since) now = max 1 (50 - (now - since).toNat) := clampNat_windowLeft _
@[simp] theorem windowRemaining_unlocking (since now : Moment) :
    windowRemaining (.unlocking since) now = max 1 (50 - (now - since).toNat) := clampNat_windowLeft _

/-- The six bytes of a bay's record, in order (R106). -/
theorem lockRecord_eq (s : State) (y : Bay) :
    lockRecord s y =
      [BitVec.ofNat 8 (sourceCode (baySource y)),
        BitVec.ofNat 8 ((s.locks.get y).reasons.sole.toNat + 2 * (s.locks.get y).reasons.transfer.toNat +
          4 * (s.locks.get y).reasons.drop.toNat + 8 * (s.locks.get y).reasons.host.toNat),
        BitVec.ofNat 8 (s.locks.get y).state.code, BitVec.ofNat 8 (s.locks.get y).state.jamCode,
        BitVec.ofNat 8 ((s.locks.get y).drive.toNat + 2 * (s.locks.get y).sense.toNat +
          4 * (s.locks.get y).reasons.host.toNat),
        BitVec.ofNat 8 (windowRemaining (s.locks.get y).state s.timeBase)] := by
  simp only [lockRecord, le8, flagByte_three, flagByte_four, List.cons_append, List.nil_append]

@[simp] theorem length_optionalLimit (v : Option Nat) : (optionalLimit v).length = 3 := by
  cases v <;> rfl

/-- The body of GET_SLOT has the 17 bytes that follow the status (R40). -/
@[simp] theorem length_slotBody (s : State) (n : Fin 16) : (slotBody s n).length = 17 := by
  simp [slotBody, le8, le16]

@[simp] theorem length_curvePointBytes (q : CurvePoint) : (curvePointBytes q).length = 4 := rfl

/-- The reply of GET_CURVE has its status, the count and 4 bytes for each point (R142). -/
theorem length_curveReply (curve : List CurvePoint) :
    ((0 : Byte) :: (le8 curve.length ++ curve.flatMap curvePointBytes)).length = 2 + 4 * curve.length := by
  simp [le8, List.length_flatMap]; omega

/-! ### The reports, as the model builds their bodies -/

/-- A byte that names a slot is answered with the slot's body (R40). -/
theorem serveGetSlot_of_some (k : Byte) (n : Fin 16) (s : State) (h : slot? k.toNat = some n) :
    serveGetSlot [k] s = answer .ok (slotBody s n) s := by
  have field : slot? (u8 [k] 0) = some n := h
  rw [serveGetSlot, withLength_eq [k] 1 _ _ rfl, field]

/-- A byte that names no slot is refused (R40). -/
theorem serveGetSlot_of_none (k : Byte) (s : State) (h : slot? k.toNat = none) :
    serveGetSlot [k] s = refuse .badValue s := by
  have field : slot? (u8 [k] 0) = none := h
  rw [serveGetSlot, withLength_eq [k] 1 _ _ rfl, field]

/-- The byte that carries a slot's number names that slot. -/
theorem slot?_toNat_ofNat (n : Fin 16) : slot? (BitVec.ofNat 8 n.val).toNat = some n := by
  have small : n.val % 256 = n.val := by omega
  simp [slot?, small]

/-- A ready GET_SLOT of a slot is answered with its body (R40). -/
theorem execGetSlot_replied (s : State) (tag : Byte) (n : Fin 16) (h : Ready 0x11 tag [BitVec.ofNat 8 n.val] s) :
    exec (.getSlot tag [BitVec.ofNat 8 n.val]) s =
      .next (s.replied 0x11 tag [BitVec.ofNat 8 n.val] (0 :: slotBody s n)) :=
  request_replied _ _ _ _ _ _ h (serveGetSlot_of_some _ n _ (slot?_toNat_ofNat n))

/-- A ready GET_SLOT of a slot above 15 is answered BAD_VALUE (R40). -/
theorem execGetSlot_refused (s : State) (tag k : Byte) (h : Ready 0x11 tag [k] s) (hk : 15 < k.toNat) :
    exec (.getSlot tag [k]) s = .next (s.replied 0x11 tag [k] [6]) :=
  request_replied _ _ _ _ _ _ h (serveGetSlot_of_none k _ (dif_neg (Nat.not_lt.mpr hk)))

/-- A ready GET_LOCKS is answered with both bays' records (R106). -/
theorem execGetLocks_replied (s : State) (tag : Byte) (h : Ready 0x29 tag [] s) :
    exec (.getLocks tag []) s = .next (s.replied 0x29 tag [] (0 :: locksBody s)) :=
  request_replied _ _ _ _ _ _ h rfl

/-- A ready GET_CURVE is answered with the count and the points held (R142). -/
theorem execGetCurve_replied (s : State) (tag : Byte) (h : Ready 0x32 tag [] s) :
    exec (.getCurve tag []) s = .next (s.replied 0x32 tag [] (0 :: (le8 s.store.settings.backlight.curve.length ++
      s.store.settings.backlight.curve.flatMap curvePointBytes))) :=
  request_replied _ _ _ _ _ _ h rfl

/-- Settles O18: each report is served at once and leaves `State.replied`; what remains is that the bodies the model
builds are the bytes that R40, R106 and R142 list. -/
theorem reportsChangeNothing : Obligations.ReportsChangeNothing := by
  unfold Obligations.ReportsChangeNothing
  intro s tag n k
  refine ⟨execGetSlot_refused s tag k, fun h => ⟨_, execGetSlot_replied s tag n h, ?slot⟩,
    fun h => ⟨_, execGetLocks_replied s tag h, ?locks⟩, fun h => ⟨_, execGetCurve_replied s tag h, ?curve⟩⟩
  case slot => exact ⟨length_slotBody s n, rfl⟩
  case locks =>
    intro record
    have hrecord : ∀ y, lockRecord s y = record y := fun y => by
      simp only [lockRecord_eq, record, List.cons.injEq, and_true, true_and]
      refine ⟨?bay, ?state, ?jam, ?window⟩
      case bay => cases y <;> rfl
      case state => cases (s.locks.get y).state <;> rfl
      case jam => rcases (s.locks.get y).state with _ | _ | _ | _ | (_ | _ | _) <;> rfl
      case window =>
        cases (s.locks.get y).state with
        | engaging since => rw [windowRemaining_engaging]
        | unlocking since => rw [windowRemaining_unlocking]
        | free | locked | jammed => rfl
    have hbody : locksBody s = record .a ++ record .b := congrArg₂ (· ++ ·) (hrecord .a) (hrecord .b)
    exact ⟨by rw [hbody]; rfl, rfl, hbody⟩
  case curve =>
    intro reply
    exact ⟨rfl, fun full => (length_curveReply _).trans (by rw [full])⟩

end Sys2Proof.Machine
end

section
/-! CLEAR_LOG (R184): the records at or below up_to are a run from the front of the log, since its seqs are consecutive
and ascend (R179). -/

namespace Sys2Proof.Machine

/-! ### A log with consecutive seqs -/

/-- The seqs of a sound log count up from next_seq less its length (R179). -/
theorem LogWf.seqs_eq {st : Store} (h : LogWf st) :
    st.log.map (·.seq) = List.range' (st.nextSeq - st.log.length) st.log.length := by
  obtain ⟨-, -, -, hseqs⟩ := h
  rw [hseqs, List.range'_eq_map_range]

/-- The oldest seq reported is the seq of the first record, or next_seq (R179). -/
theorem Store.oldestSeq_eq_headD (st : Store) : st.oldestSeq = (st.log.map (·.seq)).headD st.nextSeq := by
  unfold Store.oldestSeq; cases st.log <;> rfl

/-- The oldest seq of a sound log lies its length below next_seq, also when it is empty (R179). -/
theorem LogWf.oldest_eq {st : Store} (h : LogWf st) :
    (st.log.map (·.seq)).headD st.nextSeq = st.nextSeq - st.log.length := by
  rw [h.seqs_eq]
  cases st.log.length with
  | zero => rfl
  | succ n => rw [List.range'_succ]; rfl

/-- Of records whose seqs count up from `first`, those above `upTo` are what is left after a run from the front. -/
theorem filter_seq_eq_drop (upTo : Nat) (log : List ShockRecord) (first : Nat)
    (h : log.map (·.seq) = List.range' first log.length) :
    (log.filter fun q => decide (upTo < q.seq)) = log.drop (upTo + 1 - first) := by
  induction log generalizing first with
  | nil => simp
  | cons r rest ih =>
    rw [List.map_cons, List.length_cons, List.range'_succ, List.cons.injEq] at h
    obtain ⟨hr, hrest⟩ := h
    have htail := ih (first + 1) hrest
    by_cases hu : upTo < first
    · have none : upTo + 1 - first = 0 := by omega
      have noneRest : upTo + 1 - (first + 1) = 0 := by omega
      rw [List.filter_cons_of_pos (by simpa [hr] using hu), htail, none, noneRest, List.drop_zero, List.drop_zero]
    · have oneMore : upTo + 1 - first = upTo + 1 - (first + 1) + 1 := by omega
      rw [List.filter_cons_of_neg (by simpa [hr] using hu), htail, oneMore, List.drop_succ_cons]

/-- A sound log stays sound when a run of records leaves it at the front (R179, R184). -/
theorem LogWf.drop {st : Store} (h : LogWf st) (k : Nat) : LogWf { st with log := st.log.drop k } := by
  have hseqs := h.seqs_eq
  obtain ⟨hcap, hlen, hnext, -⟩ := h
  have shorter : (st.log.drop k).length ≤ st.log.length := (List.drop_sublist k _).length_le
  refine ⟨shorter.trans hcap, shorter.trans_lt hlen, hnext, ?_⟩
  rw [List.map_drop, hseqs, List.drop_range', ← List.range'_eq_map_range, List.length_drop]
  by_cases hk : k ≤ st.log.length
  · have start : st.nextSeq - st.log.length + k * 1 = st.nextSeq - (st.log.length - k) := by omega
    rw [start]
  · have empty : st.log.length - k = 0 := by omega
    rw [empty]; rfl

/-! ### Clearing -/

/-- The records of a sound log above `upTo` are all but a run from its front (R184). -/
theorem LogWf.filter_eq_drop {st : Store} (h : LogWf st) (upTo : Nat) :
    (st.log.filter fun q => decide (upTo < q.seq)) = st.log.drop (upTo + 1 - (st.nextSeq - st.log.length)) :=
  filter_seq_eq_drop upTo st.log _ h.seqs_eq

/-- Clearing keeps the log sound: it depends on the records and next_seq alone, not on the check word (R179, R184). -/
theorem LogWf.clear {st : Store} (h : LogWf st) (upTo : Nat) : LogWf (st.clear upTo) := by
  have hdrop := h.drop (upTo + 1 - (st.nextSeq - st.log.length))
  rw [← h.filter_eq_drop] at hdrop
  exact hdrop

/-- A ready CLEAR_LOG of the right length clears the store and reports both seqs as they then stand (R184). -/
theorem execClearLog_replied (s : State) (tag : Byte) (p : List Byte) (h : Ready 0x51 tag p s) (hp : p.length = 4) :
    exec (.clearLog tag p) s =
      .next { s.replied 0x51 tag p
          (0 :: le32 (s.store.clear (u32 p 0)).oldestSeq ++ le32 (s.store.clear (u32 p 0)).nextSeq) with
        store := s.store.clear (u32 p 0) } := by
  change request 0x51 serveClearLog tag p s = _
  rw [request_ready _ _ _ _ _ h, serveClearLog, withLength_eq _ _ _ _ hp, answer, finish_noteServed]
  rfl

/-- Settles O53: the service is `execClearLog_replied`, and what it keeps of a sound log is a drop of its front
(`LogWf.filter_eq_drop`), whose length by up_to gives the two extremes. -/
theorem clearLogRemoves : Obligations.ClearLogRemoves := by
  unfold Obligations.ClearLogRemoves
  intro s tag p ready hp sound
  refine ⟨_, execClearLog_replied s tag p ready hp, ?_⟩
  intro rest
  have hrest : rest = s.store.log.drop (u32 p 0 + 1 - (s.store.nextSeq - s.store.log.length)) :=
    sound.filter_eq_drop (u32 p 0)
  refine ⟨?next, ?tail, ?all, ?none, sound.clear (u32 p 0)⟩
  case next => rw [Store.oldestSeq_eq_headD]; rfl
  case tail => exact List.suffix_iff_eq_drop.mp (hrest ▸ List.drop_suffix _ _)
  case all =>
    intro below
    rw [sound.oldest_eq] at below
    have nothing : u32 p 0 + 1 - (s.store.nextSeq - s.store.log.length) = 0 := by omega
    rw [hrest, nothing, List.drop_zero]
  case none =>
    intro above
    obtain ⟨-, hlen, -, -⟩ := sound
    rw [hrest]
    exact List.drop_eq_nil_of_le (by omega)

end Sys2Proof.Machine
end
